-- ==== Sys2Proof/Word.lean ====
section
/-!
DEFINITION. The widths of the values the block handles (spec/00_scope.md R9, R10, R11; spec/20_memory.md R70, R71).
All values are unsigned bit vectors; bit 0 is the least significant bit.
-/

namespace Sys2Proof

/-- A scancode, response byte, command byte or logical character (R9): 8 bits. -/
abbrev Byte := BitVec 8

/-- A port address of the x86 I/O space (R70): 16 bits. -/
abbrev Port := BitVec 16

/-- A configuration address word or data word (R7): 32 bits. -/
abbrev Dword := BitVec 32

/-- The 4-bit code of a DecoderState (R9, R105). -/
abbrev StateCode := BitVec 4

/-- The FSM decode key, state code in bits 11 to 8 and input byte in bits 7 to 0 (R107). -/
abbrev Key := BitVec 12

/-- The 64-bit operation request word (R117). -/
abbrev RequestWord := BitVec 64

end Sys2Proof
end

