-- ==== Sys2Proof/Config.lean ====
section
/-!
DEFINITION. What the source fixes (spec/00_scope.md R7), the parameters it leaves open (R8) and the free values.
A parameter is plain data, so that it can stand in State and a statement over every state holds for every value of
it. An `opaque` constant has no body: no proof can see its value (log 5, 9, 10, 11).
-/

namespace Sys2Proof

/-- A command for the keyboard controller: two 8-bit fields (R39, R115). -/
structure ControllerCommand where
  commandId : Byte
  dataByte : Byte
  deriving DecidableEq, Repr

/-- The parameters of the Keyboard Unit and its companions (R8). -/
structure KbdParams where
  /-- BASE_TABLE: 208 entries, index 0x00 to 0xCF (R35). -/
  baseTable : Vector Byte 208
  /-- SHIFT_TABLE_LEN: at most 128 (R8, D28). -/
  shiftTableLen : Fin 129
  /-- SHIFT_TABLE: only the entries below SHIFT_TABLE_LEN are read (R38; log 23). -/
  shiftTable : Vector Byte 128
  /-- EXT_ERROR_SET: the extended continuations that enter Error (R147, D7). -/
  extErrorSet : List Byte
  /-- PAUSE_PRESS_CODE (D8). -/
  pausePressCode : Byte
  /-- PAUSE_RELEASE_CODE (D8). -/
  pauseReleaseCode : Byte
  /-- PRTSC_PRESS_CODE (D8). -/
  prtScPressCode : Byte
  /-- PRTSC_RELEASE_CODE (D8). -/
  prtScReleaseCode : Byte
  /-- ACK_BYTE (D10). -/
  ackByte : Byte
  /-- RESEND_BYTE (D10). -/
  resendByte : Byte
  /-- DISPATCH_BYTES: the commands whose bytes are not the default [commandId, dataByte] (D11; log 12). -/
  dispatchExceptions : List (ControllerCommand × List Byte)
  /-- MOD_CODE_LSHIFT (D27). -/
  modLShift : Byte
  /-- MOD_CODE_RSHIFT (D27). -/
  modRShift : Byte
  /-- MOD_CODE_LCTRL (D27). -/
  modLCtrl : Byte
  /-- MOD_CODE_RCTRL (D27). -/
  modRCtrl : Byte
  /-- MOD_CODE_LALT (D27). -/
  modLAlt : Byte
  /-- MOD_CODE_RALT (D27). -/
  modRAlt : Byte
  /-- LOCK_CODE_CAPS (D27). -/
  lockCaps : Byte
  /-- LOCK_CODE_NUM (D27). -/
  lockNum : Byte
  /-- LOCK_CODE_SCROLL (D27). -/
  lockScroll : Byte
  deriving DecidableEq, Repr

/-- The nine key codes the ModifierTracker tests, in the order R8 lists them. -/
def KbdParams.keyCodes (p : KbdParams) : List Byte :=
  [p.modLShift, p.modRShift, p.modLCtrl, p.modRCtrl, p.modLAlt, p.modRAlt, p.lockCaps, p.lockNum, p.lockScroll]

namespace Config

/-- KBD_DATA_PORT (R7). -/
def kbdDataPort : Port := 0x0060#16
/-- KBD_STATUS_PORT (R7). -/
def kbdStatusPort : Port := 0x0064#16
/-- PCI_ADDR_PORT (R7). -/
def pciAddrPort : Port := 0x0CF8#16
/-- PCI_DATA_PORT (R7). -/
def pciDataPort : Port := 0x0CFC#16
/-- QUEUE_CAPACITY (R7). -/
def queueCapacity : BitVec 5 := 16#5
/-- EXT_OFFSET: where the extended half of BASE_TABLE begins (R7, R108). -/
def extOffset : Nat := 0x50
/-- ABSENT_VENDOR_ID: the sentinel vendor id (R7). -/
def absentVendorId : BitVec 16 := 0xFFFF#16
/-- ACK_BYTE's default (R8, D10; log 20). -/
def ackDefault : Byte := 0xFA#8
/-- RESEND_BYTE's default (R8, D10; log 20). -/
def resendDefault : Byte := 0xFE#8
/-- ENTRY_BITS's default (R8, D25). -/
def entryBitsDefault : Nat := 16

/-- BASE_TABLE's contents: not in the source (N2). DESIGN CHOICE, free value (log 10). -/
opaque baseTable : Vector Byte 208
/-- SHIFT_TABLE_LEN: not in the source (N4). DESIGN CHOICE, free value (log 10). -/
opaque shiftTableLen : Fin 129
/-- SHIFT_TABLE's contents: not in the source (N4). DESIGN CHOICE, free value (log 10). -/
opaque shiftTable : Vector Byte 128
/-- The Pause press event code: not in the source (N3). DESIGN CHOICE, free value (log 10). -/
opaque pausePressCode : Byte
/-- The Pause release event code: not in the source (N3). DESIGN CHOICE, free value (log 10). -/
opaque pauseReleaseCode : Byte
/-- The Print Screen press event code: not in the source (N3). DESIGN CHOICE, free value (log 10). -/
opaque prtScPressCode : Byte
/-- The Print Screen release event code: not in the source (N3). DESIGN CHOICE, free value (log 10). -/
opaque prtScReleaseCode : Byte
/-- The modifier and lock key codes: not in the source (N13). DESIGN CHOICE, free value (log 11). -/
opaque freeKeyCodes : Vector Byte 9
/-- The answer to the Keyboard Unit's n-th port read: any byte (R16, D2). DESIGN CHOICE, free value (log 5). -/
opaque kbdDraw : Nat → Byte
/-- The answer to the PCI Unit's n-th port read: any dword (R16, D2). DESIGN CHOICE, free value (log 5). -/
opaque pciDraw : Nat → Dword
/-- The address latch before its first write: any value (R46, I11). DESIGN CHOICE, free value (log 9). -/
opaque addrLatch : Dword

/-- The nine key codes as R8 wants them, pairwise distinct: the free ones where they are, and nine distinct codes
where they are not (log 11). -/
def keyCodes : Vector Byte 9 :=
  if freeKeyCodes.toList.Nodup then freeKeyCodes
  else #v[0x80, 0x81, 0x82, 0x83, 0x84, 0x85, 0x86, 0x87, 0x88]

/-- The parameters at reset: the spec's default where R8 gives one, a free value elsewhere. -/
def kbdParams : KbdParams where
  baseTable := baseTable
  shiftTableLen := shiftTableLen
  shiftTable := shiftTable
  extErrorSet := []
  pausePressCode := pausePressCode
  pauseReleaseCode := pauseReleaseCode
  prtScPressCode := prtScPressCode
  prtScReleaseCode := prtScReleaseCode
  ackByte := ackDefault
  resendByte := resendDefault
  dispatchExceptions := []
  modLShift := keyCodes[0]
  modRShift := keyCodes[1]
  modLCtrl := keyCodes[2]
  modRCtrl := keyCodes[3]
  modLAlt := keyCodes[4]
  modRAlt := keyCodes[5]
  lockCaps := keyCodes[6]
  lockNum := keyCodes[7]
  lockScroll := keyCodes[8]

end Config

end Sys2Proof
end

