-- ==== Sys2Proof/Syntax.lean ====
section
/-!
DEFINITION. The decoder's states and the instructions: one constructor of `Instr` for each of the 44 rows of
spec/opcode_table.json. The first 27 are the rows of the FSM decode key (spec/30_encoding.md R107), which FEED selects
by {st, b}; the other 17 are the rows of the request word (R117).
-/

namespace Sys2Proof

/-- DecoderState: eleven states, in the order the spec lists them (R30, R105). -/
inductive DecoderState where
  | start
  | extendedPrefix
  | pauseSeq1
  | pausePressWait
  | pauseReleaseWait
  | prtScPressWait1
  | prtScPressWait2
  | prtScReleaseWait1
  | prtScReleaseWait2
  | awaitingControllerResponse
  | error
  deriving DecidableEq, Repr

/-- The width of a PCI_READ (R261): 8, 16 or 32 bits. -/
inductive Width where
  | w8
  | w16
  | w32
  deriving DecidableEq, Repr

/-- One constructor per row of the opcode table. An operand is a field the row leaves open. -/
inductive Instr where
  -- Start (R142, R143, R144)
  | feedStartE0
  | feedStartE1
  | feedStartKey (b : Byte)
  -- ExtendedPrefix (R145, R146, R147, R148)
  | feedExt2A
  | feedExtB7
  | feedExtError (b : Byte)
  | feedExtKey (b : Byte)
  -- PauseSeq1 (R149, R150, R151)
  | feedPauseSeq1On1D
  | feedPauseSeq1On9D
  | feedPauseSeq1Other (b : Byte)
  -- PausePressWait (R152, R153)
  | feedPausePressWaitOn45
  | feedPausePressWaitOther (b : Byte)
  -- PauseReleaseWait (R154, R155)
  | feedPauseReleaseWaitOnC5
  | feedPauseReleaseWaitOther (b : Byte)
  -- PrtScPressWait1 (R156, R157)
  | feedPrtScPressWait1OnE0
  | feedPrtScPressWait1Other (b : Byte)
  -- PrtScPressWait2 (R158, R159)
  | feedPrtScPressWait2On37
  | feedPrtScPressWait2Other (b : Byte)
  -- PrtScReleaseWait1 (R160, R161)
  | feedPrtScReleaseWait1OnE0
  | feedPrtScReleaseWait1Other (b : Byte)
  -- PrtScReleaseWait2 (R162, R163)
  | feedPrtScReleaseWait2OnAA
  | feedPrtScReleaseWait2Other (b : Byte)
  -- AwaitingControllerResponse (R235, R236, R237)
  | feedAwaitingAck
  | feedAwaitingResend
  | feedAwaitingOther (b : Byte)
  -- Error (R164)
  | feedErrorAny (b : Byte)
  -- unused state codes 0xB to 0xF (R106)
  | feedUnusedState (code : StateCode) (b : Byte)
  -- operations (R117)
  | reset
  | feed (b : Byte)
  | enqueue (id data : Byte)
  | tryDispatch
  | pciRead (w : Width) (bus : BitVec 8) (dev : BitVec 5) (fn : BitVec 3) (off : Byte)
  | pciReadReservedWidth
  | pciWrite32 (bus : BitVec 8) (dev : BitVec 5) (fn : BitVec 3) (off : Byte) (v : Dword)
  | deviceExists (bus : BitVec 8) (dev : BitVec 5) (fn : BitVec 3)
  | enumerate (max : Dword)
  | modApply (c raw : Byte)
  | poll
  -- reserved operation codes (R118)
  | reservedA
  | reservedB
  | reservedC
  | reservedD
  | reservedE
  | reservedF
  deriving DecidableEq, Repr

end Sys2Proof
end

