-- ==== Sys2Proof/WellFormed.lean ====
section
/-!
DEFINITION. Which parameters spec/00_scope.md R8 admits, and which instructions an encoding of the table spells: an
"any other byte" row holds none of its state's exact bytes (spec/30_encoding.md R107).
-/

namespace Sys2Proof

/-- The constraints R8 puts on the parameters: ACK_BYTE and RESEND_BYTE distinct, the nine key codes pairwise
distinct, EXT_ERROR_SET disjoint from the two Print Screen bytes, every DISPATCH_BYTES list non-empty. -/
def KbdParams.wf (p : KbdParams) : Bool :=
  p.ackByte != p.resendByte && decide p.keyCodes.Nodup &&
    p.extErrorSet.all (fun b => b != 0x2A#8 && b != 0xB7#8) &&
    p.dispatchExceptions.all (fun e => !e.2.isEmpty)

/-- `TableRanges` of R35: every entry is a control-key sentinel or a printable character. No rule depends on it. -/
def KbdParams.tableRanges (p : KbdParams) : Bool :=
  p.baseTable.toList.all fun c =>
    decide (c.toNat ≤ 0x1F ∨ (0x20 ≤ c.toNat ∧ c.toNat ≤ 0x7E) ∨ (0x80 ≤ c.toNat ∧ c.toNat ≤ 0x97))

/-- The state codes no state has: 0xB to 0xF (R105, R106). -/
def StateCode.isUnused (c : StateCode) : Bool := decide (0xB ≤ c.toNat)

/-- The instructions an encoding spells, given the parameters the keys depend on. -/
def Instr.wellFormed (p : KbdParams) : Instr → Bool
  | .feedStartE0 => true
  | .feedStartE1 => true
  | .feedStartKey b => b != 0xE0#8 && b != 0xE1#8
  | .feedExt2A => true
  | .feedExtB7 => true
  | .feedExtError b => b != 0x2A#8 && b != 0xB7#8 && p.extErrorSet.contains b
  | .feedExtKey b => b != 0x2A#8 && b != 0xB7#8 && !p.extErrorSet.contains b
  | .feedPauseSeq1On1D => true
  | .feedPauseSeq1On9D => true
  | .feedPauseSeq1Other b => b != 0x1D#8 && b != 0x9D#8
  | .feedPausePressWaitOn45 => true
  | .feedPausePressWaitOther b => b != 0x45#8
  | .feedPauseReleaseWaitOnC5 => true
  | .feedPauseReleaseWaitOther b => b != 0xC5#8
  | .feedPrtScPressWait1OnE0 => true
  | .feedPrtScPressWait1Other b => b != 0xE0#8
  | .feedPrtScPressWait2On37 => true
  | .feedPrtScPressWait2Other b => b != 0x37#8
  | .feedPrtScReleaseWait1OnE0 => true
  | .feedPrtScReleaseWait1Other b => b != 0xE0#8
  | .feedPrtScReleaseWait2OnAA => true
  | .feedPrtScReleaseWait2Other b => b != 0xAA#8
  | .feedAwaitingAck => true
  | .feedAwaitingResend => p.ackByte != p.resendByte
  | .feedAwaitingOther b => b != p.ackByte && b != p.resendByte
  | .feedErrorAny _ => true
  | .feedUnusedState code _ => code.isUnused
  | .reset => true
  | .feed _ => true
  | .enqueue _ _ => true
  | .tryDispatch => true
  | .pciRead _ _ _ _ _ => true
  | .pciReadReservedWidth => true
  | .pciWrite32 _ _ _ _ _ => true
  | .deviceExists _ _ _ => true
  | .enumerate _ => true
  | .modApply _ _ => true
  | .poll => true
  | .reservedA => true
  | .reservedB => true
  | .reservedC => true
  | .reservedD => true
  | .reservedE => true
  | .reservedF => true

end Sys2Proof
end

