-- ==== Sys2Proof/Decode.lean ====
section
/-!
DEFINITION. The codes of the DecoderState (spec/30_encoding.md R105), the two decoders (the FSM decode key of R107 and
the request word of R117), and after them the encoder. Both decoders are total: every 12-bit key and every 64-bit
request word is a row of the table, and a reserved one is its own row (R106, R118). A code of another size is rejected
by name.
-/

namespace Sys2Proof

/-- The 4-bit code of a state (R105). -/
def DecoderState.code : DecoderState → StateCode
  | .start => 0x0#4
  | .extendedPrefix => 0x1#4
  | .pauseSeq1 => 0x2#4
  | .pausePressWait => 0x3#4
  | .pauseReleaseWait => 0x4#4
  | .prtScPressWait1 => 0x5#4
  | .prtScPressWait2 => 0x6#4
  | .prtScReleaseWait1 => 0x7#4
  | .prtScReleaseWait2 => 0x8#4
  | .awaitingControllerResponse => 0x9#4
  | .error => 0xA#4

/-- The state a code stands for; none for the unused codes 0xB to 0xF (R105, R106). -/
def DecoderState.ofCode (c : StateCode) : Option DecoderState :=
  match c.toNat with
  | 0x0 => some .start
  | 0x1 => some .extendedPrefix
  | 0x2 => some .pauseSeq1
  | 0x3 => some .pausePressWait
  | 0x4 => some .pauseReleaseWait
  | 0x5 => some .prtScPressWait1
  | 0x6 => some .prtScPressWait2
  | 0x7 => some .prtScReleaseWait1
  | 0x8 => some .prtScReleaseWait2
  | 0x9 => some .awaitingControllerResponse
  | 0xA => some .error
  | _ => none

/-- What the block decodes (R100): a request word, or a decode key inside FEED. -/
inductive Code where
  | key (k : Key)
  | request (w : RequestWord)
  deriving DecidableEq, Repr

/-- Why a string of bits is no code of the block. -/
inductive DecodeError where
  /-- The block has codes of 12 and of 64 bits only (R107, R117). -/
  | noSuchLength (nbits : Nat)
  deriving DecidableEq, Repr

/-- The decode key {st, b} (R107). -/
def fsmKey (st : StateCode) (b : Byte) : Key := st ++ b

/-- The state code of a key: bits 11 to 8 (R107). -/
def keyState (k : Key) : StateCode := k.extractLsb' 8 4

/-- The input byte of a key: bits 7 to 0 (R107). -/
def keyByte (k : Key) : Byte := k.extractLsb' 0 8

/-- The FSM row a state and a byte select. Within a state the exact rows come first (R107, R140). -/
def fsmRow (p : KbdParams) (b : Byte) : DecoderState → Instr
  | .start =>
    if b = 0xE0#8 then .feedStartE0 else if b = 0xE1#8 then .feedStartE1 else .feedStartKey b
  | .extendedPrefix =>
    if b = 0x2A#8 then .feedExt2A
    else if b = 0xB7#8 then .feedExtB7
    else if p.extErrorSet.contains b then .feedExtError b
    else .feedExtKey b
  | .pauseSeq1 =>
    if b = 0x1D#8 then .feedPauseSeq1On1D
    else if b = 0x9D#8 then .feedPauseSeq1On9D
    else .feedPauseSeq1Other b
  | .pausePressWait => if b = 0x45#8 then .feedPausePressWaitOn45 else .feedPausePressWaitOther b
  | .pauseReleaseWait => if b = 0xC5#8 then .feedPauseReleaseWaitOnC5 else .feedPauseReleaseWaitOther b
  | .prtScPressWait1 => if b = 0xE0#8 then .feedPrtScPressWait1OnE0 else .feedPrtScPressWait1Other b
  | .prtScPressWait2 => if b = 0x37#8 then .feedPrtScPressWait2On37 else .feedPrtScPressWait2Other b
  | .prtScReleaseWait1 => if b = 0xE0#8 then .feedPrtScReleaseWait1OnE0 else .feedPrtScReleaseWait1Other b
  | .prtScReleaseWait2 => if b = 0xAA#8 then .feedPrtScReleaseWait2OnAA else .feedPrtScReleaseWait2Other b
  | .awaitingControllerResponse =>
    if b = p.ackByte then .feedAwaitingAck
    else if b = p.resendByte then .feedAwaitingResend
    else .feedAwaitingOther b
  | .error => .feedErrorAny b

/-- The row of a decode key (R107); a key of an unused state code is the row of R106. -/
def decodeKey (p : KbdParams) (k : Key) : Instr :=
  match DecoderState.ofCode (keyState k) with
  | some d => fsmRow p (keyByte k) d
  | none => .feedUnusedState (keyState k) (keyByte k)

/-- PCI_READ by its width code, request bits 49 to 48 (R117); code 3 is reserved (R118). -/
def decodePciRead (wcode : BitVec 2) (bus : BitVec 8) (dev : BitVec 5) (fn : BitVec 3) (off : Byte) : Instr :=
  match wcode.toNat with
  | 0 => .pciRead .w8 bus dev fn off
  | 1 => .pciRead .w16 bus dev fn off
  | 2 => .pciRead .w32 bus dev fn off
  | _ => .pciReadReservedWidth

/-- The row of a request word: the operation code is bits 63 to 60, and bits R117 does not list for an operation are
ignored. The last arm is code 0xF, the only one left. -/
def decodeRequest (w : RequestWord) : Instr :=
  let bus := w.extractLsb' 16 8
  let dev := w.extractLsb' 11 5
  let fn := w.extractLsb' 8 3
  let low := w.extractLsb' 0 8
  match (w.extractLsb' 60 4).toNat with
  | 0x0 => .reset
  | 0x1 => .feed low
  | 0x2 => .enqueue (w.extractLsb' 8 8) low
  | 0x3 => .tryDispatch
  | 0x4 => decodePciRead (w.extractLsb' 48 2) bus dev fn low
  | 0x5 => .pciWrite32 bus dev fn low (w.extractLsb' 24 32)
  | 0x6 => .deviceExists bus dev fn
  | 0x7 => .enumerate (w.extractLsb' 0 32)
  | 0x8 => .modApply (w.extractLsb' 8 8) low
  | 0x9 => .poll
  | 0xA => .reservedA
  | 0xB => .reservedB
  | 0xC => .reservedC
  | 0xD => .reservedD
  | 0xE => .reservedE
  | _ => .reservedF

/-- The decoder, on either kind of code (R100). -/
def decode (p : KbdParams) : Code → Instr
  | .key k => decodeKey p k
  | .request w => decodeRequest w

/-- The code in `nbits` bits of `w`: a key is given in up to four whole bytes, of which it is the low 12 bits, and a
request word in up to eight (log 18). -/
def codeOfBits (nbits w : Nat) : Except DecodeError Code :=
  if nbits = 0 then .error (.noSuchLength nbits)
  else if nbits ≤ 32 then .ok (.key (BitVec.ofNat 12 w))
  else if nbits ≤ 64 then .ok (.request (BitVec.ofNat 64 w))
  else .error (.noSuchLength nbits)

/-- The instruction of a row's bits, under the parameters at reset. -/
def decodeTableWord (nbits w : Nat) : Option Instr :=
  match codeOfBits nbits w with
  | .ok c => some (decode Config.kbdParams c)
  | .error _ => none

/-! ### The encoder -/

/-- The width code of PCI_READ (R117). -/
def Width.code : Width → BitVec 2
  | .w8 => 0#2
  | .w16 => 1#2
  | .w32 => 2#2

/-- Bits 23 to 0 of a PCI request: bus, device, function and offset where the address word holds them (R117). -/
def encodePciOperands (bus : BitVec 8) (dev : BitVec 5) (fn : BitVec 3) (off : Byte) : BitVec 24 :=
  bus ++ dev ++ fn ++ off

/-- A request word: its operation code above 60 bits of operands (R117). -/
def encodeOp (code : BitVec 4) (operands : BitVec 60) : Code := .request (code ++ operands)

/-- The key of an FSM row (R107). -/
def encodeKey (d : DecoderState) (b : Byte) : Code := .key (fsmKey d.code b)

/-- The code of an instruction, with 0 in every bit its row does not list (R107, R117, spec/opcode_table.json). -/
def encode (p : KbdParams) : Instr → Code
  | .feedStartE0 => encodeKey .start 0xE0#8
  | .feedStartE1 => encodeKey .start 0xE1#8
  | .feedStartKey b => encodeKey .start b
  | .feedExt2A => encodeKey .extendedPrefix 0x2A#8
  | .feedExtB7 => encodeKey .extendedPrefix 0xB7#8
  | .feedExtError b => encodeKey .extendedPrefix b
  | .feedExtKey b => encodeKey .extendedPrefix b
  | .feedPauseSeq1On1D => encodeKey .pauseSeq1 0x1D#8
  | .feedPauseSeq1On9D => encodeKey .pauseSeq1 0x9D#8
  | .feedPauseSeq1Other b => encodeKey .pauseSeq1 b
  | .feedPausePressWaitOn45 => encodeKey .pausePressWait 0x45#8
  | .feedPausePressWaitOther b => encodeKey .pausePressWait b
  | .feedPauseReleaseWaitOnC5 => encodeKey .pauseReleaseWait 0xC5#8
  | .feedPauseReleaseWaitOther b => encodeKey .pauseReleaseWait b
  | .feedPrtScPressWait1OnE0 => encodeKey .prtScPressWait1 0xE0#8
  | .feedPrtScPressWait1Other b => encodeKey .prtScPressWait1 b
  | .feedPrtScPressWait2On37 => encodeKey .prtScPressWait2 0x37#8
  | .feedPrtScPressWait2Other b => encodeKey .prtScPressWait2 b
  | .feedPrtScReleaseWait1OnE0 => encodeKey .prtScReleaseWait1 0xE0#8
  | .feedPrtScReleaseWait1Other b => encodeKey .prtScReleaseWait1 b
  | .feedPrtScReleaseWait2OnAA => encodeKey .prtScReleaseWait2 0xAA#8
  | .feedPrtScReleaseWait2Other b => encodeKey .prtScReleaseWait2 b
  | .feedAwaitingAck => encodeKey .awaitingControllerResponse p.ackByte
  | .feedAwaitingResend => encodeKey .awaitingControllerResponse p.resendByte
  | .feedAwaitingOther b => encodeKey .awaitingControllerResponse b
  | .feedErrorAny b => encodeKey .error b
  | .feedUnusedState code b => .key (fsmKey code b)
  | .reset => encodeOp 0x0#4 0#60
  | .feed b => encodeOp 0x1#4 (0#52 ++ b)
  | .enqueue id data => encodeOp 0x2#4 (0#44 ++ id ++ data)
  | .tryDispatch => encodeOp 0x3#4 0#60
  | .pciRead w bus dev fn off =>
    encodeOp 0x4#4 (0#10 ++ w.code ++ 0#24 ++ encodePciOperands bus dev fn off)
  | .pciReadReservedWidth => encodeOp 0x4#4 (0#10 ++ 3#2 ++ 0#48)
  | .pciWrite32 bus dev fn off v => encodeOp 0x5#4 (0#4 ++ v ++ encodePciOperands bus dev fn off)
  | .deviceExists bus dev fn => encodeOp 0x6#4 (0#36 ++ encodePciOperands bus dev fn 0#8)
  | .enumerate max => encodeOp 0x7#4 (0#28 ++ max)
  | .modApply c raw => encodeOp 0x8#4 (0#44 ++ c ++ raw)
  | .poll => encodeOp 0x9#4 0#60
  | .reservedA => encodeOp 0xA#4 0#60
  | .reservedB => encodeOp 0xB#4 0#60
  | .reservedC => encodeOp 0xC#4 0#60
  | .reservedD => encodeOp 0xD#4 0#60
  | .reservedE => encodeOp 0xE#4 0#60
  | .reservedF => encodeOp 0xF#4 0#60

end Sys2Proof
end

