-- ==== Sys2Proof/Machine/State.lean ====
section
/-!
DEFINITION. The state of the two units, what the environment holds, and the state after reset (spec/10_state.md; the
reset values of R51). Plain data throughout. The two units share no state (spec/00_scope.md R1), so each has a
structure of its own.
-/

namespace Sys2Proof.Machine

/-- Why a request is given no meaning (R18). A refusal is no stop of the machine: it sets the unit's sticky mark
(R49) and is the operation's result (log 2). -/
inductive RefusalReason where
  /-- Operation codes 0xA to 0xF and PCI_READ width code 3 (R118). -/
  | reservedOp
  /-- FEED, TRY_DISPATCH or POLL in a state code 0xB to 0xF (R106). -/
  | badStateCode
  /-- An 8- or 16-bit configuration write (R270), and a `subwordWrite` call of width 32 (DESIGN CHOICE, log 16). -/
  | subwordConfigWrite
  /-- Another agent acts on the same unit during the operation (R86, R370). -/
  | concurrentUse
  /-- A PCI operand outside its range (R260 corner case 3, D21, I23). -/
  | illTyped
  /-- POLL before the callback is registered (R314). -/
  | pollBeforeRegistration
  deriving DecidableEq, Repr

/-- An entry of a unit's transaction history: a port transaction or an output event (R12, R16, R17, R313). The values
that reads returned are recorded with them (log 6). -/
inductive Event where
  | write8 (port : Port) (v : Byte)
  | read8 (port : Port) (v : Byte)
  | write32 (port : Port) (v : Dword)
  | read32 (port : Port) (v : Dword)
  | emit (e : Option Byte)
  | callback (c raw : Byte) (flags : BitVec 16)
  deriving DecidableEq, Repr

/-- What a unit's last operation returned to its caller (R12, R13; log 7). -/
inductive OpResult where
  /-- The operation returns nothing. -/
  | nothing
  /-- FEED (R140). -/
  | emitted (e : Option Byte)
  /-- ENQUEUE (R230). -/
  | accepted (ok : Bool)
  /-- MOD_APPLY (R200). -/
  | adjusted (c : Byte) (flags : BitVec 16)
  /-- PCI_READ (R261). -/
  | value (v : Dword)
  /-- DEVICE_EXISTS (R266). -/
  | present (p : Bool)
  /-- ENUMERATE (R290). -/
  | entries (count : Nat) (e : List (BitVec 16))
  /-- Any operation that is refused (R18). -/
  | refused (r : RefusalReason)
  deriving DecidableEq, Repr

/-- The command FIFO Q (R40). A slot holds no value until an ENQUEUE writes it (R44). -/
structure Fifo where
  buf : Vector (Option ControllerCommand) 16
  start : BitVec 4
  len : BitVec 5
  deriving DecidableEq, Repr

/-- The FIFO after reset: empty, every slot unwritten (R51). -/
def Fifo.empty : Fifo where
  buf := Vector.replicate 16 none
  start := 0#4
  len := 0#5

/-- The Keyboard Unit with its companions ModifierTracker and KeyboardPoll. -/
structure Kbd where
  /-- The DecoderState register, as its 4-bit code (R30, R105; log 3). -/
  st : StateCode
  /-- The command FIFO (R40). -/
  q : Fifo
  /-- KeyFlags (R36, R37). -/
  flags : BitVec 16
  /-- The tables and the other parameters, immutable (R35, R38, R8). -/
  params : KbdParams
  /-- Whether the keyboard event callback is registered (R50, R314). -/
  callbackRegistered : Bool
  /-- The sticky mark (R49). -/
  refused : Bool
  /-- The transaction history, NEWEST FIRST. -/
  history : List Event
  /-- The environment's next answers to port reads (R16; log 5). -/
  draws : List Byte
  /-- How many port reads the unit has made (log 5). -/
  drawCount : Nat
  /-- The last operation's result (log 7). -/
  result : OpResult
  deriving DecidableEq, Repr

/-- The PCI Unit: no state of its own (R45), its environment and the model's records. -/
structure Pci where
  /-- The configuration-address latch behind PCI_ADDR_PORT, of the environment (R46). -/
  addrLatch : Dword
  /-- The functions the platform lacks, each packed as R113 packs it (R271; log 8). -/
  absent : List (BitVec 16)
  /-- ENTRY_BITS (R8, R295). -/
  entryBits : Nat
  /-- The sticky mark (R49). -/
  refused : Bool
  /-- The transaction history, NEWEST FIRST. -/
  history : List Event
  /-- The environment's next answers to port reads (R16; log 5). -/
  draws : List Dword
  /-- How many port reads the unit has made (log 5). -/
  drawCount : Nat
  /-- The last operation's result (log 7). -/
  result : OpResult
  deriving DecidableEq, Repr

/-- What a caller asks for: a request word (R117), or a call that no request word spells (log 16). -/
inductive Call where
  | word (w : RequestWord)
  /-- A sub-word configuration write (R270). R270 speaks of the widths 8 and 16 only; that the call can also name the
  width 32, with the same 16-bit value, and is then refused too, is the model's own (DESIGN CHOICE, log 16): the 32-bit
  write of the spec is the request word of PCI_WRITE32 (R267). -/
  | subwordWrite (w : Width) (bus : BitVec 8) (dev : BitVec 5) (fn : BitVec 3) (off : Byte) (v : BitVec 16)
  /-- A PCI_READ whose operands are plain numbers (R260 corner case 3, D21). -/
  | numericRead (w : Width) (bus dev fn off : Nat)
  deriving DecidableEq, Repr

/-- One call, and whether another agent acts on the same unit while it is in progress (R86; log 15). -/
structure Request where
  call : Call
  overlapped : Bool
  deriving DecidableEq, Repr

/-- The machine: the two units and the caller's calls, oldest first. -/
structure State where
  kbd : Kbd
  pci : Pci
  requests : List Request
  deriving DecidableEq, Repr

/-- Why the machine stops. No state that keeps the invariants of Safety.lean reaches either. -/
inductive Fault where
  /-- Raised by an ACK or a RESEND in AwaitingControllerResponse with an empty FIFO, whose head is not defined (R42,
  R43). Safe (log 17). -/
  | noHeadCommand
  /-- Raised by a transmission of a slot no ENQUEUE has written since reset (R44, I10). Safe (log 17). -/
  | unwrittenSlot
  deriving DecidableEq, Repr

/-- Why an instruction has no meaning. -/
inductive Refusal where
  /-- Raised by an arm of exec whose instruction has no meaning yet. Safe. -/
  | notModelled (mnemonic : String)
  /-- Raised by the meaning of an FSM row whose key does not hold the state code in `st`: FEED selects another row
  there, so no step raises it. Safe (log 4). -/
  | keyNotSelected
  deriving DecidableEq, Repr

/-- The Keyboard Unit after reset (R51). -/
def Kbd.reset : Kbd where
  st := DecoderState.code .start
  q := Fifo.empty
  flags := 0#16
  params := Config.kbdParams
  callbackRegistered := true
  refused := false
  history := []
  draws := []
  drawCount := 0
  result := .nothing

/-- The PCI Unit and its environment after reset (R45, R51). -/
def Pci.reset : Pci where
  addrLatch := Config.addrLatch
  absent := []
  entryBits := Config.entryBitsDefault
  refused := false
  history := []
  draws := []
  drawCount := 0
  result := .nothing

/-- The machine right after reset (R51, R360): it waits for its next operation. -/
def State.reset : State where
  kbd := Kbd.reset
  pci := Pci.reset
  requests := []

end Sys2Proof.Machine
end

