-- ==== Sys2Proof/Machine/Operands.lean ====
section
/-!
DEFINITION. Operand assembly: table indices, the PCI address word, sub-word extraction, the packed entry and the bytes
of a command (spec/30_encoding.md R108 to R115; spec/42_command_queue.md R233; spec/43_pci_config_access.md).
-/

namespace Sys2Proof.Machine

/-- The 7-bit scancode CODE of a byte (R101). -/
def scanCode (b : Byte) : BitVec 7 := b.extractLsb' 0 7

/-- Whether a byte is a press: bit 7 clear (R101, R201). -/
def isPress (b : Byte) : Bool := !b.getLsbD 7

/-- The plain index into BASE_TABLE: `b & 0x7F` (R108). -/
def plainIndex (b : Byte) : Fin 208 := ⟨(scanCode b).toNat, by have := (scanCode b).isLt; omega⟩

/-- The extended index into BASE_TABLE: `(b & 0x7F) + 0x50`, exact (R108). -/
def extIndex (b : Byte) : Fin 208 :=
  ⟨(scanCode b).toNat + Config.extOffset, by have := (scanCode b).isLt; simp only [Config.extOffset]; omega⟩

/-- The base-table entry of a single-byte key (R144). -/
def plainChar (p : KbdParams) (b : Byte) : Byte := p.baseTable[plainIndex b]

/-- The base-table entry of an extended key (R148). -/
def extChar (p : KbdParams) (b : Byte) : Byte := p.baseTable[extIndex b]

/-- The shift-table entry of a raw byte, where the table has one: `zext(raw) < SHIFT_TABLE_LEN` (R205). -/
def shiftEntry (p : KbdParams) (raw : Byte) : Option Byte :=
  if h : raw.toNat < p.shiftTableLen.val then
    some (p.shiftTable[raw.toNat]'(by have := p.shiftTableLen.isLt; omega))
  else none

/-- DISPATCH_BYTES(cmd): by default the command id, then the data byte (R233, D11). -/
def dispatchBytes (p : KbdParams) (cmd : ControllerCommand) : List Byte :=
  match p.dispatchExceptions.lookup cmd with
  | some bs => bs
  | none => [cmd.commandId, cmd.dataByte]

/-- The configuration address word ADDR_ENC (R111, R260). -/
def addrEnc (bus : BitVec 8) (dev : BitVec 5) (fn : BitVec 3) (off : Byte) : Dword :=
  0x80000000#32 ||| (bus.setWidth 32 <<< 16) ||| (dev.setWidth 32 <<< 11) ||| (fn.setWidth 32 <<< 8) |||
    (off &&& 0xFC#8).setWidth 32

/-- The shift of a sub-word field: 8 times the offset's low two bits (R109). -/
def subwordShift (off : Byte) : Nat := 8 * (off.extractLsb' 0 2).toNat

/-- EXTRACT: the field of a dword at an offset (R109, R262, R263, R264). -/
def extract (d : Dword) (off : Byte) : Width → Dword
  | .w8 => (d >>> subwordShift off) &&& 0xFF#32
  | .w16 => (d >>> subwordShift off) &&& 0xFFFF#32
  | .w32 => d

/-- PACK: the enumeration entry of a function (R113, R290). -/
def pack (bus : BitVec 8) (dev : BitVec 5) (fn : BitVec 3) : BitVec 16 :=
  (bus.setWidth 16 <<< 8) ||| (dev.setWidth 16 <<< 3) ||| fn.setWidth 16

/-- The packed function an address word selects: its bits 23 to 8 (R110, R113). -/
def addrFunction (a : Dword) : BitVec 16 := a.extractLsb' 8 16

/-- The dword number an address word selects: its bits 7 to 2 (R110). -/
def addrRegister (a : Dword) : BitVec 6 := a.extractLsb' 2 6

/-- What a caller's output buffer element holds for an entry: the entry zero-extended to ENTRY_BITS (R295, D25). -/
def bufferElement (entryBits : Nat) (e : BitVec 16) : BitVec entryBits := e.setWidth entryBits

end Sys2Proof.Machine
end

