-- ==== Sys2Proof/Machine/Flags.lean ====
section
/-!
DEFINITION. KeyFlags: its bits and the ModifierTracker's updates (spec/10_state.md R36, R37;
spec/41_modifier_tracker.md R200 to R203).
-/

namespace Sys2Proof.Machine

/-- PRESSED, bit 0 (R37). -/
def flagPressed : Nat := 0
/-- CAPS, bit 1 (R37). -/
def flagCaps : Nat := 1
/-- NUM, bit 2 (R37, D26). -/
def flagNum : Nat := 2
/-- SCROLL, bit 3 (R37, D26). -/
def flagScroll : Nat := 3
/-- LSHIFT, bit 4 (R37). -/
def flagLShift : Nat := 4
/-- RSHIFT, bit 5 (R37, D26). -/
def flagRShift : Nat := 5
/-- LCTRL, bit 6 (R37, D26). -/
def flagLCtrl : Nat := 6
/-- RCTRL, bit 7 (R37, D26). -/
def flagRCtrl : Nat := 7
/-- LALT, bit 8 (R37, D26). -/
def flagLAlt : Nat := 8
/-- RALT, bit 9 (R37, D26). -/
def flagRAlt : Nat := 9

/-- `flags[i] <- v`. -/
def setFlag (f : BitVec 16) (i : Nat) (v : Bool) : BitVec 16 :=
  (f &&& ~~~(1#16 <<< i)) ||| (if v then 1#16 <<< i else 0#16)

/-- `flags[i] <- flags[i] ^ 1`. -/
def toggleFlag (f : BitVec 16) (i : Nat) : BitVec 16 := setFlag f i (!f.getLsbD i)

/-- The update of the key's own bit (R202, R203): a held modifier mirrors the press, a lock key toggles on a press
only. -/
def keyFlagUpdate (p : KbdParams) (c : Byte) (pressed : Bool) (f : BitVec 16) : BitVec 16 :=
  if c = p.modLShift then setFlag f flagLShift pressed
  else if c = p.modRShift then setFlag f flagRShift pressed
  else if c = p.modLCtrl then setFlag f flagLCtrl pressed
  else if c = p.modRCtrl then setFlag f flagRCtrl pressed
  else if c = p.modLAlt then setFlag f flagLAlt pressed
  else if c = p.modRAlt then setFlag f flagRAlt pressed
  else if c = p.lockCaps ∧ pressed then toggleFlag f flagCaps
  else if c = p.lockNum ∧ pressed then toggleFlag f flagNum
  else if c = p.lockScroll ∧ pressed then toggleFlag f flagScroll
  else f

/-- KeyFlags after MOD_APPLY(c, raw) (R200 to R203). -/
def updateFlags (p : KbdParams) (c raw : Byte) (f : BitVec 16) : BitVec 16 :=
  keyFlagUpdate p c (isPress raw) (setFlag f flagPressed (isPress raw))

/-- Any Shift held (R200). -/
def shiftHeld (f : BitVec 16) : Bool := f.getLsbD flagLShift || f.getLsbD flagRShift

/-- A lowercase letter (R204, D38). -/
def isLowercase (c : Byte) : Bool := decide (0x61 ≤ c.toNat ∧ c.toNat ≤ 0x7A)

/-- The adjusted character, from the flags after the update (R200, R204 to R206, D29). -/
def adjustChar (p : KbdParams) (c raw : Byte) (f : BitVec 16) : Byte :=
  if isLowercase c then
    if f.getLsbD flagCaps != shiftHeld f then c - 0x20#8 else c
  else if shiftHeld f then (shiftEntry p raw).getD c
  else c

end Sys2Proof.Machine
end

