-- ==== Sys2Proof/Machine/Ops.lean ====
section
/-!
DEFINITION. The operations the meanings share: port transactions, the command FIFO, output, the entry to and the return
from Error, refusals, and the lift of a unit's operation to the machine.
-/

namespace Sys2Proof.Machine

/-- The outcome of an operation over a state, or over one unit. -/
abbrev Out (σ : Type) := Host.Outcome σ Fault Refusal

/-- An operation of the Keyboard Unit, as an operation of the machine. -/
def State.onKbd (s : State) (o : Out Kbd) : Out State :=
  match o with
  | .next k => .next { s with kbd := k }
  | .fault r => .fault r
  | .refused r => .refused r

/-! ### Keyboard Unit: registers, output, refusal -/

/-- `st <- d` (R30). -/
def Kbd.setSt (k : Kbd) (d : DecoderState) : Kbd := { k with st := d.code }

/-- `return v`. -/
def Kbd.setResult (k : Kbd) (r : OpResult) : Kbd := { k with result := r }

/-- Record an event in the transaction history. -/
def Kbd.record (k : Kbd) (e : Event) : Kbd := { k with history := e :: k.history }

/-- `emit(e)`: the step's output on the decoder-output port (R12, R140). -/
def Kbd.emit (k : Kbd) (e : Option Byte) : Kbd := (k.record (.emit e)).setResult (.emitted e)

/-- `raise Refused(r)`: the sticky mark is set, nothing else happens (R18, R49; log 2). -/
def Kbd.refuse (k : Kbd) (r : RefusalReason) : Kbd := { k with refused := true, result := .refused r }

/-- PortRead of an 8-bit keyboard port: a free draw, recorded (R16; log 5). -/
def Kbd.portRead (k : Kbd) (port : Port) : Byte × Kbd :=
  let d := k.draws.headD (Config.kbdDraw k.drawCount)
  (d, { k with draws := k.draws.tail, drawCount := k.drawCount + 1, history := .read8 port d :: k.history })

/-- PortWrite of a byte to a keyboard port (R17). -/
def Kbd.portWrite (k : Kbd) (port : Port) (v : Byte) : Kbd := k.record (.write8 port v)

/-! ### The command FIFO -/

/-- The slot of queued command i: `(Q.start + i) mod 16` (R40). -/
def Fifo.slot (q : Fifo) (i : Nat) : Fin 16 := ⟨(q.start.toNat + i) % 16, Nat.mod_lt _ (by decide)⟩

/-- The queued commands, head first (R40); a slot that holds no value contributes nothing. -/
def Fifo.queued (q : Fifo) : List ControllerCommand :=
  (List.range q.len.toNat).filterMap fun i => q.buf[q.slot i]

/-- Append a command behind the last one (R230). -/
def Fifo.push (q : Fifo) (cmd : ControllerCommand) : Fifo :=
  { q with buf := q.buf.set (q.slot q.len.toNat) (some cmd), len := q.len + 1#5 }

/-- Remove the head command (R235). -/
def Fifo.pop (q : Fifo) : Fifo := { q with start := q.start + 1#4, len := q.len - 1#5 }

/-- The head command, or why there is none to read (R42, R44). -/
def Fifo.head (q : Fifo) : Except Fault ControllerCommand :=
  if q.len = 0#5 then .error .noHeadCommand
  else match q.buf[q.slot 0] with
    | some cmd => .ok cmd
    | none => .error .unwrittenSlot

/-- TRANSMIT: the command's bytes to KBD_DATA_PORT, in list order (R233). -/
def Kbd.transmit (k : Kbd) (cmd : ControllerCommand) : Kbd :=
  (dispatchBytes k.params cmd).foldl (fun k b => k.portWrite Config.kbdDataPort b) k

/-- TRANSMIT(Q.buf[Q.start]). -/
def Kbd.transmitHead (k : Kbd) : Out Kbd :=
  match k.q.head with
  | .ok cmd => .next (k.transmit cmd)
  | .error f => .fault f

/-- DEQUEUE (R235); the FIFO holds a command there (R43). -/
def Kbd.dequeue (k : Kbd) : Out Kbd :=
  if k.q.len = 0#5 then .fault .noHeadCommand else .next { k with q := k.q.pop }

/-! ### FSM transitions -/

/-- What an FSM row of state `d` does, where `st` holds `d` (R107; log 4). -/
def Kbd.inState (k : Kbd) (d : DecoderState) (o : Out Kbd) : Out Kbd :=
  if k.st = d.code then o else .refused .keyNotSelected

/-- `st <- d'; emit(e)` in state `d`. -/
def Kbd.move (k : Kbd) (d d' : DecoderState) (e : Option Byte) : Out Kbd :=
  k.inState d (.next ((k.setSt d').emit e))

/-- Entry to Error (R332, R338): `st` is the only state written, and nothing is saved. The block's one counterpart of
taking an exception. -/
def Kbd.enterError (k : Kbd) (d : DecoderState) : Out Kbd := k.move d .error none

/-- Return from Error: the byte is dropped and the decoder is in Start (R164, R338, R339). -/
def Kbd.leaveError (k : Kbd) : Out Kbd := k.move .error .start none

/-- MOD_APPLY on the unit: the adjusted character, and the unit with KeyFlags updated (R200). -/
def Kbd.modApply (k : Kbd) (c raw : Byte) : Byte × Kbd :=
  let f := updateFlags k.params c raw k.flags
  (adjustChar k.params c raw f, { k with flags := f })

/-! ### PCI Unit -/

/-- `return v`. -/
def Pci.setResult (u : Pci) (r : OpResult) : Pci := { u with result := r }

/-- `raise Refused(r)` in the PCI Unit (R18, R49; log 2). -/
def Pci.refuse (u : Pci) (r : RefusalReason) : Pci := { u with refused := true, result := .refused r }

/-- PortWrite of an address word to PCI_ADDR_PORT: the latch holds it (R17, R46, R82). -/
def Pci.writeAddr (u : Pci) (a : Dword) : Pci :=
  { u with addrLatch := a, history := .write32 Config.pciAddrPort a :: u.history }

/-- PortWrite to PCI_DATA_PORT (R17). What the function does with the value is the environment's (R267, I15). -/
def Pci.writeData (u : Pci) (v : Dword) : Pci :=
  { u with history := .write32 Config.pciDataPort v :: u.history }

/-- What the environment can answer to a data read: any dword, but with 0xFFFF in the vendor-id field of a function
the platform lacks (R271, I9; log 8). -/
def Pci.answer (u : Pci) (d : Dword) : Dword :=
  if u.absent.contains (addrFunction u.addrLatch) ∧ addrRegister u.addrLatch = 0#6 then
    d ||| Config.absentVendorId.setWidth 32
  else d

/-- PortRead of PCI_DATA_PORT: a free draw, recorded (R16; log 5). -/
def Pci.readData (u : Pci) : Dword × Pci :=
  let d := u.answer (u.draws.headD (Config.pciDraw u.drawCount))
  (d, { u with draws := u.draws.tail, drawCount := u.drawCount + 1,
               history := .read32 Config.pciDataPort d :: u.history })

/-- The read sequencer: address phase, data phase, extraction (R261). -/
def Pci.configRead (u : Pci) (bus : BitVec 8) (dev : BitVec 5) (fn : BitVec 3) (off : Byte) (w : Width) :
    Dword × Pci :=
  let r := (u.writeAddr (addrEnc bus dev fn off)).readData
  (extract r.1 off w, r.2)

/-- The probe of a function: is its vendor id not the sentinel (R266)? -/
def Pci.probe (u : Pci) (bus : BitVec 8) (dev : BitVec 5) (fn : BitVec 3) : Bool × Pci :=
  let r := u.configRead bus dev fn 0x00#8 .w16
  (r.1 != Config.absentVendorId.setWidth 32, r.2)

/-! ### Refusals of the machine -/

/-- Refuse an operation that belongs to neither unit alone: both units are marked (log 2). -/
def State.refuseBoth (s : State) (r : RefusalReason) : State :=
  { s with kbd := s.kbd.refuse r, pci := s.pci.refuse r }

end Sys2Proof.Machine
end

