-- ==== Sys2Proof/Machine/Enumerator.lean ====
section
/-!
DEFINITION. ENUMERATE, the PciEnumerator companion (spec/44_pci_enumerator.md R290 to R297). The three nested loops are
three structural recursions over the numbers they run through.
-/

namespace Sys2Proof.Machine

/-- A scan in progress: whether it has stopped at the bound, how many entries it holds, the entries NEWEST FIRST, and
the unit. -/
structure Scan where
  stopped : Bool
  count : Nat
  found : List (BitVec 16)
  pci : Pci
  deriving DecidableEq, Repr

/-- An existing function is found: stop if the bound is reached, else append its entry (R292). -/
def Scan.record (c : Scan) (max : Nat) (e : BitVec 16) : Scan :=
  if c.count = max then { c with stopped := true }
  else { c with count := c.count + 1, found := e :: c.found }

/-- Probe the listed functions of a device, in order (R290, R293). -/
def scanFunctions (max : Nat) (bus : BitVec 8) (dev : BitVec 5) : List (BitVec 3) → Scan → Scan
  | [], c => c
  | fn :: fns, c =>
    let r := c.pci.probe bus dev fn
    let c := { c with pci := r.2 }
    if r.1 then
      let c := c.record max (pack bus dev fn)
      if c.stopped then c else scanFunctions max bus dev fns c
    else scanFunctions max bus dev fns c

/-- Functions 1 to 7 (R290). -/
def upperFunctions : List (BitVec 3) := [1#3, 2#3, 3#3, 4#3, 5#3, 6#3, 7#3]

/-- Scan one device: nothing if function 0 is absent (R291), else its entry, then the header-type byte, and functions
1 to 7 if its bit 7 is set (R294, D24). -/
def scanDevice (max : Nat) (bus : BitVec 8) (dev : BitVec 5) (c : Scan) : Scan :=
  let r := c.pci.probe bus dev 0#3
  let c := { c with pci := r.2 }
  if r.1 then
    let c := c.record max (pack bus dev 0#3)
    if c.stopped then c
    else
      let h := c.pci.configRead bus dev 0#3 0x0E#8 .w8
      let c := { c with pci := h.2 }
      if h.1.getLsbD 7 then scanFunctions max bus dev upperFunctions c else c
  else c

/-- Scan the listed devices of a bus, in order, until the scan stops. -/
def scanDevices (max : Nat) (bus : BitVec 8) : List (BitVec 5) → Scan → Scan
  | [], c => c
  | dev :: devs, c =>
    let c := scanDevice max bus dev c
    if c.stopped then c else scanDevices max bus devs c

/-- Devices 0 to 31 (R7). -/
def allDevices : List (BitVec 5) := (List.range 32).map (BitVec.ofNat 5)

/-- Scan the listed buses, in order, until the scan stops. -/
def scanBuses (max : Nat) : List (BitVec 8) → Scan → Scan
  | [], c => c
  | bus :: buses, c =>
    let c := scanDevices max bus allDevices c
    if c.stopped then c else scanBuses max buses c

/-- Buses 0 to 255 (R7). -/
def allBuses : List (BitVec 8) := (List.range 256).map (BitVec.ofNat 8)

/-- The whole scan (R290). -/
def Pci.enumerate (u : Pci) (max : Nat) : Scan :=
  scanBuses max allBuses { stopped := false, count := 0, found := [], pci := u }

/-- R290: ENUMERATE. The result is the count and the entries in the order they were found. -/
def execEnumerate (max : Dword) (s : State) : Out State :=
  .next { s with pci :=
    let c := s.pci.enumerate max.toNat
    c.pci.setResult (.entries c.count c.found.reverse) }

end Sys2Proof.Machine
end

