-- ==== Sys2Proof/Machine/Fsm.lean ====
section
/-!
DEFINITION. The scancode decoder: one meaning for each of the 27 FSM rows (spec/40_scancode_fsm.md R142 to R164,
spec/42_command_queue.md R235 to R237, spec/30_encoding.md R106), and FEED, which runs the row its key selects (R140).
-/

namespace Sys2Proof.Machine

/-! ### Start -/

/-- R142: the extended prefix is absorbed. -/
def execFeedStartE0 (s : State) : Out State := s.onKbd (s.kbd.move .start .extendedPrefix none)

/-- R143: the Pause prefix is absorbed. -/
def execFeedStartE1 (s : State) : Out State := s.onKbd (s.kbd.move .start .pauseSeq1 none)

/-- R144: a single-byte key emits its base-table entry, 0 included (D6). -/
def execFeedStartKey (b : Byte) (s : State) : Out State :=
  s.onKbd (s.kbd.move .start .start (some (plainChar s.kbd.params b)))

/-! ### ExtendedPrefix -/

/-- R145: Print Screen press, first half. -/
def execFeedExt2A (s : State) : Out State := s.onKbd (s.kbd.move .extendedPrefix .prtScPressWait1 none)

/-- R146: Print Screen release, first half. -/
def execFeedExtB7 (s : State) : Out State := s.onKbd (s.kbd.move .extendedPrefix .prtScReleaseWait1 none)

/-- R147: an invalid extended continuation. -/
def execFeedExtError (_b : Byte) (s : State) : Out State := s.onKbd (s.kbd.enterError .extendedPrefix)

/-- R148: an extended key emits the entry 0x50 above its code. -/
def execFeedExtKey (b : Byte) (s : State) : Out State :=
  s.onKbd (s.kbd.move .extendedPrefix .start (some (extChar s.kbd.params b)))

/-! ### Pause -/

/-- R149. -/
def execFeedPauseSeq1On1D (s : State) : Out State := s.onKbd (s.kbd.move .pauseSeq1 .pausePressWait none)

/-- R150. -/
def execFeedPauseSeq1On9D (s : State) : Out State := s.onKbd (s.kbd.move .pauseSeq1 .pauseReleaseWait none)

/-- R151. -/
def execFeedPauseSeq1Other (_b : Byte) (s : State) : Out State := s.onKbd (s.kbd.enterError .pauseSeq1)

/-- R152: Pause press complete. -/
def execFeedPausePressWaitOn45 (s : State) : Out State :=
  s.onKbd (s.kbd.move .pausePressWait .start (some s.kbd.params.pausePressCode))

/-- R153. -/
def execFeedPausePressWaitOther (_b : Byte) (s : State) : Out State := s.onKbd (s.kbd.enterError .pausePressWait)

/-- R154: Pause release complete. -/
def execFeedPauseReleaseWaitOnC5 (s : State) : Out State :=
  s.onKbd (s.kbd.move .pauseReleaseWait .start (some s.kbd.params.pauseReleaseCode))

/-- R155. -/
def execFeedPauseReleaseWaitOther (_b : Byte) (s : State) : Out State := s.onKbd (s.kbd.enterError .pauseReleaseWait)

/-! ### Print Screen -/

/-- R156. -/
def execFeedPrtScPressWait1OnE0 (s : State) : Out State :=
  s.onKbd (s.kbd.move .prtScPressWait1 .prtScPressWait2 none)

/-- R157. -/
def execFeedPrtScPressWait1Other (_b : Byte) (s : State) : Out State := s.onKbd (s.kbd.enterError .prtScPressWait1)

/-- R158: Print Screen press complete. -/
def execFeedPrtScPressWait2On37 (s : State) : Out State :=
  s.onKbd (s.kbd.move .prtScPressWait2 .start (some s.kbd.params.prtScPressCode))

/-- R159. -/
def execFeedPrtScPressWait2Other (_b : Byte) (s : State) : Out State := s.onKbd (s.kbd.enterError .prtScPressWait2)

/-- R160. -/
def execFeedPrtScReleaseWait1OnE0 (s : State) : Out State :=
  s.onKbd (s.kbd.move .prtScReleaseWait1 .prtScReleaseWait2 none)

/-- R161. -/
def execFeedPrtScReleaseWait1Other (_b : Byte) (s : State) : Out State :=
  s.onKbd (s.kbd.enterError .prtScReleaseWait1)

/-- R162: Print Screen release complete. -/
def execFeedPrtScReleaseWait2OnAA (s : State) : Out State :=
  s.onKbd (s.kbd.move .prtScReleaseWait2 .start (some s.kbd.params.prtScReleaseCode))

/-- R163. -/
def execFeedPrtScReleaseWait2Other (_b : Byte) (s : State) : Out State :=
  s.onKbd (s.kbd.enterError .prtScReleaseWait2)

/-! ### AwaitingControllerResponse: RESPOND (R165, R234) -/

/-- R235: an ACK dequeues the head command and returns to Start. -/
def execFeedAwaitingAck (s : State) : Out State :=
  s.onKbd (s.kbd.inState .awaitingControllerResponse
    (match s.kbd.dequeue with
    | .next k => .next ((k.setSt .start).emit none)
    | .fault f => .fault f
    | .refused r => .refused r))

/-- R236: a RESEND transmits the head command again and stays (D13). -/
def execFeedAwaitingResend (s : State) : Out State :=
  s.onKbd (s.kbd.inState .awaitingControllerResponse
    (match s.kbd.transmitHead with
    | .next k => .next (k.emit none)
    | .fault f => .fault f
    | .refused r => .refused r))

/-- R237: any other response abandons the attempt; the head command stays queued (D14). -/
def execFeedAwaitingOther (_b : Byte) (s : State) : Out State :=
  s.onKbd (s.kbd.move .awaitingControllerResponse .start none)

/-! ### Error and the unused codes -/

/-- R164: the byte is dropped, whatever it is. -/
def execFeedErrorAny (_b : Byte) (s : State) : Out State := s.onKbd s.kbd.leaveError

/-- R106: a FEED in a state code no state has is refused. -/
def execFeedUnusedState (code : StateCode) (_b : Byte) (s : State) : Out State :=
  if s.kbd.st = code ∧ DecoderState.ofCode code = none then
    .next { s with kbd := s.kbd.refuse .badStateCode }
  else .refused .keyNotSelected

/-! ### FEED -/

/-- The FSM step of a byte: the listing of R140, each case its row's meaning. -/
def feedByte (b : Byte) (s : State) : Out State :=
  match DecoderState.ofCode s.kbd.st with
  | some .start =>
    if b = 0xE0#8 then execFeedStartE0 s
    else if b = 0xE1#8 then execFeedStartE1 s
    else execFeedStartKey b s
  | some .extendedPrefix =>
    if b = 0x2A#8 then execFeedExt2A s
    else if b = 0xB7#8 then execFeedExtB7 s
    else if s.kbd.params.extErrorSet.contains b then execFeedExtError b s
    else execFeedExtKey b s
  | some .pauseSeq1 =>
    if b = 0x1D#8 then execFeedPauseSeq1On1D s
    else if b = 0x9D#8 then execFeedPauseSeq1On9D s
    else execFeedPauseSeq1Other b s
  | some .pausePressWait =>
    if b = 0x45#8 then execFeedPausePressWaitOn45 s else execFeedPausePressWaitOther b s
  | some .pauseReleaseWait =>
    if b = 0xC5#8 then execFeedPauseReleaseWaitOnC5 s else execFeedPauseReleaseWaitOther b s
  | some .prtScPressWait1 =>
    if b = 0xE0#8 then execFeedPrtScPressWait1OnE0 s else execFeedPrtScPressWait1Other b s
  | some .prtScPressWait2 =>
    if b = 0x37#8 then execFeedPrtScPressWait2On37 s else execFeedPrtScPressWait2Other b s
  | some .prtScReleaseWait1 =>
    if b = 0xE0#8 then execFeedPrtScReleaseWait1OnE0 s else execFeedPrtScReleaseWait1Other b s
  | some .prtScReleaseWait2 =>
    if b = 0xAA#8 then execFeedPrtScReleaseWait2OnAA s else execFeedPrtScReleaseWait2Other b s
  | some .awaitingControllerResponse =>
    if b = s.kbd.params.ackByte then execFeedAwaitingAck s
    else if b = s.kbd.params.resendByte then execFeedAwaitingResend s
    else execFeedAwaitingOther b s
  | some .error => execFeedErrorAny b s
  | none => execFeedUnusedState s.kbd.st b s

/-- R140: FEED. -/
def execFeed (b : Byte) (s : State) : Out State := feedByte b s

end Sys2Proof.Machine
end

