-- ==== Sys2Proof/Machine/Modifier.lean ====
section
/-!
DEFINITION. MOD_APPLY, the ModifierTracker companion (spec/41_modifier_tracker.md R200 to R206).
-/

namespace Sys2Proof.Machine

/-- R200: update KeyFlags, then adjust the character by the updated flags; both are the result. -/
def execModApply (c raw : Byte) (s : State) : Out State :=
  let r := s.kbd.modApply c raw
  .next { s with kbd := r.2.setResult (.adjusted r.1 r.2.flags) }

end Sys2Proof.Machine
end

