-- ==== Sys2Proof/Machine/PciAccess.lean ====
section
/-!
DEFINITION. PCI_READ, PCI_WRITE32, DEVICE_EXISTS and the reserved width code (spec/43_pci_config_access.md;
spec/30_encoding.md R118).
-/

namespace Sys2Proof.Machine

/-- R261: one address write, one data read, the field extracted. -/
def execPciRead (w : Width) (bus : BitVec 8) (dev : BitVec 5) (fn : BitVec 3) (off : Byte) (s : State) : Out State :=
  let r := s.pci.configRead bus dev fn off w
  .next { s with pci := r.2.setResult (.value r.1) }

/-- R118: PCI_READ with width code 3 is refused, with no transaction. -/
def execPciReadReservedWidth (s : State) : Out State := .next { s with pci := s.pci.refuse .reservedOp }

/-- R267, R268: one address write, one data write; the offset's low two bits are ignored. -/
def execPciWrite32 (bus : BitVec 8) (dev : BitVec 5) (fn : BitVec 3) (off : Byte) (v : Dword) (s : State) :
    Out State :=
  .next { s with pci := ((s.pci.writeAddr (addrEnc bus dev fn off)).writeData v).setResult .nothing }

/-- R266: is the vendor id not the sentinel? -/
def execDeviceExists (bus : BitVec 8) (dev : BitVec 5) (fn : BitVec 3) (s : State) : Out State :=
  let r := s.pci.probe bus dev fn
  .next { s with pci := r.2.setResult (.present r.1) }

end Sys2Proof.Machine
end

