-- ==== Sys2Proof/Machine/Poll.lean ====
section
/-!
DEFINITION. POLL, the KeyboardPoll glue (spec/45_keyboard_poll.md R310 to R316).
-/

namespace Sys2Proof.Machine

/-- What POLL does with FEED's output for byte b: on `some(c)`, MOD_APPLY, and on a press the callback with the
adjusted character, the raw byte and the updated flags (R207, R310, R313). POLL itself returns nothing. -/
def Kbd.deliver (k : Kbd) (b : Byte) : Kbd :=
  match k.result with
  | .emitted (some c) =>
    let r := k.modApply c b
    if r.2.flags.getLsbD flagPressed then
      (r.2.record (.callback r.1 b r.2.flags)).setResult .nothing
    else r.2.setResult .nothing
  | _ => k.setResult .nothing

/-- POLL after its status read found a byte waiting: one data read, FEED, delivery (R310, R312, R316). -/
def pollByte (s : State) : Out State :=
  let r := s.kbd.portRead Config.kbdDataPort
  match feedByte r.1 { s with kbd := r.2 } with
  | .next t => .next { t with kbd := t.kbd.deliver r.1 }
  | .fault f => .fault f
  | .refused f => .refused f

/-- R310: POLL. Refused before the callback is registered (R314) and in an unused state code (R106), with no
transaction (log 19). -/
def execPoll (s : State) : Out State :=
  if s.kbd.callbackRegistered = false then
    .next { s with kbd := s.kbd.refuse .pollBeforeRegistration }
  else if DecoderState.ofCode s.kbd.st = none then
    .next { s with kbd := s.kbd.refuse .badStateCode }
  else
    let r := s.kbd.portRead Config.kbdStatusPort
    if r.1.getLsbD 0 then pollByte { s with kbd := r.2 }
    else .next { s with kbd := r.2.setResult .nothing }

end Sys2Proof.Machine
end

