-- ==== Sys2Proof/Machine/Queue.lean ====
section
/-!
DEFINITION. ENQUEUE and TRY_DISPATCH (spec/42_command_queue.md R230 to R233). The response to a dispatched command is
in Fsm.lean (R234 to R237).
-/

namespace Sys2Proof.Machine

/-- R230, R231: append the command, or answer false on a full queue and change nothing in it. -/
def execEnqueue (id data : Byte) (s : State) : Out State :=
  if s.kbd.q.len = Config.queueCapacity then
    .next { s with kbd := s.kbd.setResult (.accepted false) }
  else
    .next { s with kbd := { s.kbd with q := s.kbd.q.push ⟨id, data⟩, result := .accepted true } }

/-- The dispatch gate on the unit (R232): only from Start, and only with a command queued; refused in an unused state
code (R106). -/
def Kbd.tryDispatch (k : Kbd) : Out Kbd :=
  if DecoderState.ofCode k.st = none then .next (k.refuse .badStateCode)
  else if k.st = DecoderState.code .start ∧ k.q.len ≠ 0#5 then
    match k.transmitHead with
    | .next k => .next ((k.setSt .awaitingControllerResponse).setResult .nothing)
    | .fault f => .fault f
    | .refused r => .refused r
  else .next (k.setResult .nothing)

/-- R232: TRY_DISPATCH. -/
def execTryDispatch (s : State) : Out State := s.onKbd s.kbd.tryDispatch

end Sys2Proof.Machine
end

