-- ==== Sys2Proof/Machine/System.lean ====
section
/-!
DEFINITION. RESET (spec/70_reset_and_hazards.md R360, R361) and the reserved operation codes (spec/30_encoding.md R118).
-/

namespace Sys2Proof.Machine

/-- RESET on the Keyboard Unit: Start, KeyFlags 0, an empty FIFO with every slot unwritten. The parameters, the
callback, the sticky mark and the history stay (R51, R361; log 25). -/
def Kbd.restart (k : Kbd) : Kbd :=
  { k with st := DecoderState.code .start, flags := 0#16, q := Fifo.empty, result := .nothing }

/-- R360: RESET. The PCI Unit has no state to reset. -/
def execReset (s : State) : Out State := .next { s with kbd := s.kbd.restart }

/-- R118: operation code 0xA is refused. -/
def execReservedA (s : State) : Out State := .next (s.refuseBoth .reservedOp)

/-- R118: operation code 0xB is refused. -/
def execReservedB (s : State) : Out State := .next (s.refuseBoth .reservedOp)

/-- R118: operation code 0xC is refused. -/
def execReservedC (s : State) : Out State := .next (s.refuseBoth .reservedOp)

/-- R118: operation code 0xD is refused. -/
def execReservedD (s : State) : Out State := .next (s.refuseBoth .reservedOp)

/-- R118: operation code 0xE is refused. -/
def execReservedE (s : State) : Out State := .next (s.refuseBoth .reservedOp)

/-- R118: operation code 0xF is refused. -/
def execReservedF (s : State) : Out State := .next (s.refuseBoth .reservedOp)

end Sys2Proof.Machine
end

