-- ==== Sys2Proof/Machine/Dispatch.lean ====
section
/-!
DEFINITION. exec: one arm per row of spec/opcode_table.json, each one direct call of the row's meaning.
-/

namespace Sys2Proof.Machine

def exec (i : Instr) (s : State) : Host.Outcome State Fault Refusal :=
  match i with
  | .feedStartE0 => Sys2Proof.Machine.execFeedStartE0 s
  | .feedStartE1 => Sys2Proof.Machine.execFeedStartE1 s
  | .feedStartKey b => Sys2Proof.Machine.execFeedStartKey b s
  | .feedExt2A => Sys2Proof.Machine.execFeedExt2A s
  | .feedExtB7 => Sys2Proof.Machine.execFeedExtB7 s
  | .feedExtError b => Sys2Proof.Machine.execFeedExtError b s
  | .feedExtKey b => Sys2Proof.Machine.execFeedExtKey b s
  | .feedPauseSeq1On1D => Sys2Proof.Machine.execFeedPauseSeq1On1D s
  | .feedPauseSeq1On9D => Sys2Proof.Machine.execFeedPauseSeq1On9D s
  | .feedPauseSeq1Other b => Sys2Proof.Machine.execFeedPauseSeq1Other b s
  | .feedPausePressWaitOn45 => Sys2Proof.Machine.execFeedPausePressWaitOn45 s
  | .feedPausePressWaitOther b => Sys2Proof.Machine.execFeedPausePressWaitOther b s
  | .feedPauseReleaseWaitOnC5 => Sys2Proof.Machine.execFeedPauseReleaseWaitOnC5 s
  | .feedPauseReleaseWaitOther b => Sys2Proof.Machine.execFeedPauseReleaseWaitOther b s
  | .feedPrtScPressWait1OnE0 => Sys2Proof.Machine.execFeedPrtScPressWait1OnE0 s
  | .feedPrtScPressWait1Other b => Sys2Proof.Machine.execFeedPrtScPressWait1Other b s
  | .feedPrtScPressWait2On37 => Sys2Proof.Machine.execFeedPrtScPressWait2On37 s
  | .feedPrtScPressWait2Other b => Sys2Proof.Machine.execFeedPrtScPressWait2Other b s
  | .feedPrtScReleaseWait1OnE0 => Sys2Proof.Machine.execFeedPrtScReleaseWait1OnE0 s
  | .feedPrtScReleaseWait1Other b => Sys2Proof.Machine.execFeedPrtScReleaseWait1Other b s
  | .feedPrtScReleaseWait2OnAA => Sys2Proof.Machine.execFeedPrtScReleaseWait2OnAA s
  | .feedPrtScReleaseWait2Other b => Sys2Proof.Machine.execFeedPrtScReleaseWait2Other b s
  | .feedAwaitingAck => Sys2Proof.Machine.execFeedAwaitingAck s
  | .feedAwaitingResend => Sys2Proof.Machine.execFeedAwaitingResend s
  | .feedAwaitingOther b => Sys2Proof.Machine.execFeedAwaitingOther b s
  | .feedErrorAny b => Sys2Proof.Machine.execFeedErrorAny b s
  | .feedUnusedState code b => Sys2Proof.Machine.execFeedUnusedState code b s
  | .reset => Sys2Proof.Machine.execReset s
  | .feed b => Sys2Proof.Machine.execFeed b s
  | .enqueue id data => Sys2Proof.Machine.execEnqueue id data s
  | .tryDispatch => Sys2Proof.Machine.execTryDispatch s
  | .pciRead w bus dev fn off => Sys2Proof.Machine.execPciRead w bus dev fn off s
  | .pciReadReservedWidth => Sys2Proof.Machine.execPciReadReservedWidth s
  | .pciWrite32 bus dev fn off v => Sys2Proof.Machine.execPciWrite32 bus dev fn off v s
  | .deviceExists bus dev fn => Sys2Proof.Machine.execDeviceExists bus dev fn s
  | .enumerate max => Sys2Proof.Machine.execEnumerate max s
  | .modApply c raw => Sys2Proof.Machine.execModApply c raw s
  | .poll => Sys2Proof.Machine.execPoll s
  | .reservedA => Sys2Proof.Machine.execReservedA s
  | .reservedB => Sys2Proof.Machine.execReservedB s
  | .reservedC => Sys2Proof.Machine.execReservedC s
  | .reservedD => Sys2Proof.Machine.execReservedD s
  | .reservedE => Sys2Proof.Machine.execReservedE s
  | .reservedF => Sys2Proof.Machine.execReservedF s

end Sys2Proof.Machine
end

