-- ==== Sys2Proof/Machine/Request.lean ====
section
/-!
DEFINITION. How the machine takes its caller's next call (spec/20_memory.md R85, R86; spec/30_encoding.md R100, R117),
the calls it turns away before they become an instruction, and how a call is placed (log 1, 15, 16, 18).
-/

namespace Sys2Proof.Machine

/-- The units an operation belongs to. -/
structure Units where
  kbd : Bool
  pci : Bool
  deriving DecidableEq, Repr

/-- The unit of each operation, as the table of R117 gives it; RESET and the reserved codes count for both. -/
def unitsOf : Instr → Units
  | .pciRead _ _ _ _ _ => ⟨false, true⟩
  | .pciReadReservedWidth => ⟨false, true⟩
  | .pciWrite32 _ _ _ _ _ => ⟨false, true⟩
  | .deviceExists _ _ _ => ⟨false, true⟩
  | .enumerate _ => ⟨false, true⟩
  | .reset => ⟨true, true⟩
  | .reservedA => ⟨true, true⟩
  | .reservedB => ⟨true, true⟩
  | .reservedC => ⟨true, true⟩
  | .reservedD => ⟨true, true⟩
  | .reservedE => ⟨true, true⟩
  | .reservedF => ⟨true, true⟩
  | .feedStartE0 => ⟨true, false⟩
  | .feedStartE1 => ⟨true, false⟩
  | .feedStartKey _ => ⟨true, false⟩
  | .feedExt2A => ⟨true, false⟩
  | .feedExtB7 => ⟨true, false⟩
  | .feedExtError _ => ⟨true, false⟩
  | .feedExtKey _ => ⟨true, false⟩
  | .feedPauseSeq1On1D => ⟨true, false⟩
  | .feedPauseSeq1On9D => ⟨true, false⟩
  | .feedPauseSeq1Other _ => ⟨true, false⟩
  | .feedPausePressWaitOn45 => ⟨true, false⟩
  | .feedPausePressWaitOther _ => ⟨true, false⟩
  | .feedPauseReleaseWaitOnC5 => ⟨true, false⟩
  | .feedPauseReleaseWaitOther _ => ⟨true, false⟩
  | .feedPrtScPressWait1OnE0 => ⟨true, false⟩
  | .feedPrtScPressWait1Other _ => ⟨true, false⟩
  | .feedPrtScPressWait2On37 => ⟨true, false⟩
  | .feedPrtScPressWait2Other _ => ⟨true, false⟩
  | .feedPrtScReleaseWait1OnE0 => ⟨true, false⟩
  | .feedPrtScReleaseWait1Other _ => ⟨true, false⟩
  | .feedPrtScReleaseWait2OnAA => ⟨true, false⟩
  | .feedPrtScReleaseWait2Other _ => ⟨true, false⟩
  | .feedAwaitingAck => ⟨true, false⟩
  | .feedAwaitingResend => ⟨true, false⟩
  | .feedAwaitingOther _ => ⟨true, false⟩
  | .feedErrorAny _ => ⟨true, false⟩
  | .feedUnusedState _ _ => ⟨true, false⟩
  | .feed _ => ⟨true, false⟩
  | .enqueue _ _ => ⟨true, false⟩
  | .tryDispatch => ⟨true, false⟩
  | .modApply _ _ => ⟨true, false⟩
  | .poll => ⟨true, false⟩

/-- Refuse an operation: the sticky mark of each unit it belongs to (R18, R49). -/
def State.refuseUnits (s : State) (u : Units) (r : RefusalReason) : State :=
  { s with kbd := if u.kbd then s.kbd.refuse r else s.kbd,
           pci := if u.pci then s.pci.refuse r else s.pci }

/-- The operation a call asks for, or why it asks for none. A numeric PCI_READ is well typed when each operand is in
its range (R260 corner case 3, D21). A sub-word write is refused whatever its width; R270 says so of 8 and 16 bits, and
for the width 32 it is the model's choice (DESIGN CHOICE, log 16). -/
def Call.instr : Call → Except RefusalReason Instr
  | .word w => .ok (decodeRequest w)
  | .subwordWrite _ _ _ _ _ _ => .error .subwordConfigWrite
  | .numericRead w bus dev fn off =>
    if bus < 256 ∧ dev < 32 ∧ fn < 8 ∧ off < 256 then
      .ok (.pciRead w (BitVec.ofNat 8 bus) (BitVec.ofNat 5 dev) (BitVec.ofNat 3 fn) (BitVec.ofNat 8 off))
    else .error .illTyped

/-- The units of a call: its operation's, or the PCI Unit for a configuration access that is no operation. -/
def Call.units (c : Call) : Units :=
  match c.instr with
  | .ok i => unitsOf i
  | .error _ => ⟨false, true⟩

/-- What the machine does with its next call. -/
inductive Fetched where
  /-- No call waits. -/
  | idle
  /-- The call is refused; the machine goes on in this state. -/
  | turnedAway (s : State)
  /-- The call is this instruction, to be run in this state. -/
  | run (i : Instr) (s : State)
  deriving DecidableEq, Repr

/-- Take the oldest call. Another agent's use of the same unit refuses it (R86), whatever it asks for; then a call
that is no operation is refused. -/
def State.fetch (s : State) : Fetched :=
  match s.requests with
  | [] => .idle
  | r :: rest =>
    let t := { s with requests := rest }
    if r.overlapped then .turnedAway (t.refuseUnits r.call.units .concurrentUse)
    else match r.call.instr with
      | .ok i => .run i t
      | .error e => .turnedAway (t.refuseUnits r.call.units e)

/-- Place a request word as the next call. -/
def State.placeRequest (s : State) (w : RequestWord) : State :=
  { s with requests := ⟨.word w, false⟩ :: s.requests }

/-- The request word of FEED b (R117). -/
def feedRequest (b : Byte) : RequestWord := 0x1#4 ++ (0#52 ++ b)

/-- Make an FSM row the next thing to run: `st` holds the key's state and FEED of its byte is the next call. A row of
AwaitingControllerResponse needs a command in flight (R43): an empty FIFO gets one (log 18). -/
def State.placeKey (s : State) (k : Key) : State :=
  let q := if keyState k = DecoderState.code .awaitingControllerResponse ∧ s.kbd.q.len = 0#5
    then s.kbd.q.push ⟨0#8, 0#8⟩ else s.kbd.q
  { s with kbd := { s.kbd with st := keyState k, q := q } }.placeRequest (feedRequest (keyByte k))

/-- Place the instruction of a row's bits as the next to run (log 18). -/
def State.placeBits (s : State) (nbits w : Nat) : State :=
  match codeOfBits nbits w with
  | .ok (.key k) => s.placeKey k
  | .ok (.request r) => s.placeRequest r
  | .error _ => s

end Sys2Proof.Machine
end

