-- ==== Sys2Proof/Machine/Step.lean ====
section
/-!
DEFINITION. One step: the machine takes its caller's oldest call and runs it to completion (spec/00_scope.md R13,
spec/20_memory.md R85). With no call waiting it waits (spec/70_reset_and_hazards.md R360).
-/

namespace Sys2Proof.Machine

/-- One step of the machine. -/
def step (s : State) : Host.Outcome State Fault Refusal :=
  match s.fetch with
  | .idle => .next s
  | .turnedAway t => .next t
  | .run i t => exec i t

/-- The state with a row's bits placed as the next instruction to run (log 18). -/
def State.withFetchWord (s : State) (nbits w : Nat) : State := s.placeBits nbits w

end Sys2Proof.Machine
end

