-- ==== Sys2Proof/Safety.lean ====
section
/-!
DEFINITION. The invariants of the machine, in the terms the statements use (spec/10_state.md R31, R36, R41, R43, R44;
spec/20_memory.md R71; spec/30_encoding.md R112; spec/45_keyboard_poll.md R313), runs of bytes, and the trace of a scan
(spec/44_pci_enumerator.md R296).
-/

namespace Sys2Proof.Machine

/-- `st` holds the code of one of the eleven states (R31, R106). -/
abbrev Kbd.legalState (k : Kbd) : Prop := (DecoderState.ofCode k.st).isSome = true

/-- The FIFO holds at most 16 commands, and every queued slot holds a value (R41, R44). -/
abbrev Fifo.wf (q : Fifo) : Prop := q.len.toNat ≤ 16 ∧ ∀ i : Fin 16, i.val < q.len.toNat → q.buf[q.slot i].isSome = true

/-- KeyFlags bits 15 to 10 are 0 (R36). -/
abbrev flagsDefined (f : BitVec 16) : Prop := f.extractLsb' 10 6 = 0#6

/-- An address word the block may write: bit 31 set, bits 30 to 24 and 1 to 0 clear (R110, R112). -/
abbrev addressWord (a : Dword) : Prop := a.extractLsb' 24 8 = 0x80#8 ∧ a.extractLsb' 0 2 = 0#2

/-- What the Keyboard Unit may do to the world: 8-bit writes of KBD_DATA_PORT, 8-bit reads of the two keyboard ports,
outputs, and callbacks of presses (R71, R313). -/
abbrev Event.ofKbd (e : Event) : Prop :=
  match e with
  | .write8 p _ => p = Config.kbdDataPort
  | .read8 p _ => p = Config.kbdDataPort ∨ p = Config.kbdStatusPort
  | .emit _ => True
  | .callback _ raw f => isPress raw = true ∧ f.getLsbD flagPressed = true ∧ flagsDefined f
  | .write32 _ _ => False
  | .read32 _ _ => False

/-- What the PCI Unit may do to the world: 32-bit writes of an address word to PCI_ADDR_PORT, 32-bit writes and reads
of PCI_DATA_PORT (R71, R112). -/
abbrev Event.ofPci (e : Event) : Prop :=
  match e with
  | .write32 p v => (p = Config.pciAddrPort ∧ addressWord v) ∨ p = Config.pciDataPort
  | .read32 p _ => p = Config.pciDataPort
  | .write8 _ _ => False
  | .read8 _ _ => False
  | .emit _ => False
  | .callback _ _ _ => False

/-- The Keyboard Unit's invariant. -/
structure Kbd.Inv (k : Kbd) : Prop where
  legal : k.legalState
  fifo : k.q.wf
  /-- R43. -/
  inFlight : k.st = DecoderState.code .awaitingControllerResponse → k.q.len ≠ 0#5
  flags : flagsDefined k.flags
  params : k.params.wf = true
  traffic : ∀ e ∈ k.history, e.ofKbd

/-- The PCI Unit's invariant. -/
structure Pci.Inv (u : Pci) : Prop where
  traffic : ∀ e ∈ u.history, e.ofPci
  entryBits : 16 ≤ u.entryBits

/-- The machine's invariant. -/
structure State.Inv (s : State) : Prop where
  kbd : s.kbd.Inv
  pci : s.pci.Inv

/-- Neither unit carries the sticky mark: the premise of a claim about the block (R49). -/
abbrev State.unrefused (s : State) : Prop := s.kbd.refused = false ∧ s.pci.refused = false

/-- The unit after a FEED that moves to state `d` with output `e` and writes nothing else (R140, R34). -/
def Kbd.after (k : Kbd) (d : DecoderState) (e : Option Byte) : Kbd :=
  { k with st := d.code, history := .emit e :: k.history, result := .emitted e }

/-- The port writes of a command, as the history holds them (NEWEST FIRST): its bytes to port 0x60, in list order
(R233). -/
def commandWrites (p : KbdParams) (cmd : ControllerCommand) : List Event :=
  ((dispatchBytes p cmd).map (Event.write8 0x0060#16)).reverse

/-- The environment's answer to the Keyboard Unit's next port read (R16). -/
def Kbd.nextDraw (k : Kbd) : Byte := k.draws.headD (Config.kbdDraw k.drawCount)

/-- The environment's answer to the PCI Unit's next port read, before R271 constrains it (R16). -/
def Pci.nextDraw (u : Pci) : Dword := u.draws.headD (Config.pciDraw u.drawCount)

/-- The environment's answer to the PCI Unit's port read that follows k others, before R271 constrains it (R16). -/
def Pci.drawAt (u : Pci) (k : Nat) : Dword := (u.draws.drop k).headD (Config.pciDraw (u.drawCount + k))

/-- The unit after one 8-bit port read (R16). -/
def Kbd.afterRead (k : Kbd) (port : Port) : Kbd :=
  { k with draws := k.draws.tail, drawCount := k.drawCount + 1, history := .read8 port k.nextDraw :: k.history }

/-- The functions whose vendor-id reads in a trace (OLDEST FIRST) answered something else than the sentinel: each
address write of dword 0, with the data read after it (R261, R266). -/
def presentProbes : List Event → List (BitVec 16)
  | .write32 _ a :: .read32 _ d :: rest =>
    if a.extractLsb' 2 6 = 0#6 ∧ d.setWidth 16 ≠ 0xFFFF#16 then a.extractLsb' 8 16 :: presentProbes rest
    else presentProbes rest
  | _ :: rest => presentProbes rest
  | [] => []

/-- The trace (OLDEST FIRST) of configuration reads: each address word written, then the dword read (R76, R261). -/
def roundTrips (trips : List (Dword × Dword)) : List Event :=
  trips.flatMap fun p => [.write32 0x0CF8#16 p.1, .read32 0x0CFC#16 p.2]

/-- The address word of dword 0 of function 0 in slot `n = 32 * bus + device` (R110). -/
def slotWord (n : Nat) : Dword := BitVec.ofNat 32 (0x80000000 + n * 0x800)

/-- The address word that follows the round trip (a, d) in the scan of R296, unless the scan stops there (R292); `none`
where the space ends. Function 0 absent: the next slot (R291). Function 0 present: its header type, the byte at 0x0E.
Its bit 7, bit 23 of the dword at 0x0C, leads to function 1, and each function to the one after it; else, and after
function 7, the next slot (R290, R294). -/
def scanNext (a d : Dword) : Option Dword :=
  let n := (a.extractLsb' 11 13).toNat
  let nextSlot := if n = 8191 then none else some (slotWord (n + 1))
  if a.extractLsb' 2 6 ≠ 0#6 then
    if d.getLsbD 23 then some (slotWord n + 0x100#32) else nextSlot
  else if a.extractLsb' 8 3 = 0#3 then
    if d.setWidth 16 = 0xFFFF#16 then nextSlot else some (slotWord n + 0x0C#32)
  else if a.extractLsb' 8 3 = 7#3 then nextSlot
  else some (a + 0x100#32)

/-- How many port reads a trace holds. -/
def readCount (h : List Event) : Nat :=
  h.countP fun e => match e with
    | .read8 _ _ => true
    | .read32 _ _ => true
    | .write8 _ _ => false
    | .write32 _ _ => false
    | .emit _ => false
    | .callback _ _ _ => false

/-- FEED of each byte in turn. -/
def feedAll : List Byte → State → Out State
  | [], s => .next s
  | b :: bs, s =>
    match exec (.feed b) s with
    | .next t => feedAll bs t
    | .fault f => .fault f
    | .refused r => .refused r

/-- The port writes of a history, in its order. -/
def portWrites (h : List Event) : List Event :=
  h.filter fun e => match e with
    | .write8 _ _ => true
    | .write32 _ _ => true
    | .read8 _ _ => false
    | .read32 _ _ => false
    | .emit _ => false
    | .callback _ _ _ => false

/-- The callbacks of a history, in its order. -/
def callbacks (h : List Event) : List Event :=
  h.filter fun e => match e with
    | .callback _ _ _ => true
    | .write8 _ _ => false
    | .write32 _ _ => false
    | .read8 _ _ => false
    | .read32 _ _ => false
    | .emit _ => false

end Sys2Proof.Machine
end

