-- ==== Sys2Proof/Certificates/Slice0/Obligations.lean ====
section
/-!
DEFINITION. The statements for the provers. Each is `def Obligations.<Name> : Prop`; its docstring says which rule of
spec/ it formalises. An equation `exec i s = .next { s with … }` is a frame too: it says that every register, flag,
slot, history and record not named in it is unchanged. The block has no memory (spec/20_memory.md R70), so no
statement speaks of one. No statement rests on the value of a free value: the answers of the environment are
`nextDraw`, which a state's `draws` can make anything.
-/

open Sys2Proof Sys2Proof.Machine

/-! ### Encoding -/

/-- Every bit of an encoding is read back: decoding the code of a well-formed instruction gives the instruction
(R100, R107, R110, R117, R118). -/
def Obligations.DecodeOfEncode : Prop :=
  ∀ (p : KbdParams) (i : Instr), i.wellFormed p = true → decode p (encode p i) = i

/-- Every decode key has one meaning: the row it decodes to is well formed and has that key (R107). -/
def Obligations.EncodeOfDecodedKey : Prop :=
  ∀ (p : KbdParams) (k : Key), (decode p (.key k)).wellFormed p = true ∧ encode p (decode p (.key k)) = .key k

/-- Words written out from the spec's tables decode to the rows they stand for (R107, R117, R118; vectors L1-6, VD6,
VD9). The codes are the spec's own choice (decisions D3, D39). The row of 0x9FA rests on ACK_BYTE = 0xFA at reset (D10;
log 20, PRESUMED) and the row of 0x148 on the empty EXT_ERROR_SET at reset (D7; log 20). That a key is given in 16 bits
is the model's choice (log 18). -/
def Obligations.SpecWordsDecode : Prop :=
  decodeTableWord 16 0x0E0 = some .feedStartE0 ∧ decodeTableWord 16 0x148 = some (.feedExtKey 0x48) ∧
  decodeTableWord 16 0x9FA = some .feedAwaitingAck ∧ decodeTableWord 16 0xC12 = some (.feedUnusedState 0xC 0x12) ∧
  decodeTableWord 64 0x10000000000000E0 = some (.feed 0xE0) ∧
  decodeTableWord 64 0x200000000000F002 = some (.enqueue 0xF0 0x02) ∧
  decodeTableWord 64 0x4002000000011310 = some (.pciRead .w32 1 2 3 0x10) ∧
  decodeTableWord 64 0x4003000000000000 = some .pciReadReservedWidth ∧
  decodeTableWord 64 0x5000000007000804 = some (.pciWrite32 0 1 0 0x04 0x00000007) ∧
  decodeTableWord 64 0x8000000000003102 = some (.modApply 0x31 0x02)

/-! ### Steps -/

/-- A step runs the decoded request (R13, R85, R117): the oldest call is taken off the list, and the instruction its
word decodes to runs in the state that leaves. Placing a word as the next call and stepping runs its instruction. That
calls wait in a list is the model's choice (log 1, log 18). -/
def Obligations.StepRunsDecodedRequest : Prop :=
  (∀ (s : State) (w : RequestWord) (rest : List Request), s.requests = ⟨.word w, false⟩ :: rest →
    step s = exec (decodeRequest w) { s with requests := rest }) ∧
  ∀ (s : State) (w : RequestWord), step (s.withFetchWord 64 w.toNat) = exec (decodeRequest w) s

/-- FEED runs the FSM row that the decode key of `st` and the byte selects (R107, R140). -/
def Obligations.FeedRunsSelectedRow : Prop :=
  ∀ (s : State) (b : Byte),
    exec (.feed b) s = exec (decode s.kbd.params (.key (fsmKey s.kbd.st b))) s

/-- Placing a decode key and stepping runs the key's row, in the state that holds the key's state code. The model's
choice of how a row is placed is log 18; a key of AwaitingControllerResponse also needs a command in flight. -/
def Obligations.StepRunsPlacedKey : Prop :=
  ∀ (s : State) (k : Key), keyState k ≠ 0x9#4 →
    step (s.withFetchWord 16 k.toNat) =
      exec (decode s.kbd.params (.key k)) { s with kbd := { s.kbd with st := keyState k } }

/-- With no call waiting the machine waits (R360: after RESET the block waits for its next operation; log 1). -/
def Obligations.StepWithoutRequestWaits : Prop :=
  ∀ s : State, s.requests = [] → step s = .next s

/-- An operation of a unit that another agent uses at the same time is refused: the sticky mark of the unit is set, and
no port access or other effect happens (R86, R370, R49; decision D35). A call that no request word spells belongs to
the PCI Unit, and concurrent use refuses it before anything else does, whatever its operands. The form of the refusal,
the `overlapped` mark of a call and those calls are the model's choice (log 2, log 15, log 16). -/
def Obligations.ConcurrentUseIsRefused : Prop :=
  (∀ (s : State) (c : Call) (rest : List Request), s.requests = ⟨c, true⟩ :: rest → (∀ w, c ≠ .word w) →
    step s = .next { s with requests := rest,
                            pci := { s.pci with refused := true, result := .refused .concurrentUse } }) ∧
  ∀ (s : State) (w : RequestWord) (rest : List Request), s.requests = ⟨.word w, true⟩ :: rest →
    ((unitsOf (decodeRequest w) = ⟨true, false⟩ →
      step s = .next { s with requests := rest,
                              kbd := { s.kbd with refused := true, result := .refused .concurrentUse } }) ∧
    (unitsOf (decodeRequest w) = ⟨false, true⟩ →
      step s = .next { s with requests := rest,
                              pci := { s.pci with refused := true, result := .refused .concurrentUse } }) ∧
    (unitsOf (decodeRequest w) = ⟨true, true⟩ →
      step s = .next { s with requests := rest,
                              kbd := { s.kbd with refused := true, result := .refused .concurrentUse },
                              pci := { s.pci with refused := true, result := .refused .concurrentUse } }))

/-- A sub-word configuration write is refused and issues no transaction (R270), and so is a PCI read with an operand
outside its range (R260 corner case 3, D21); a numeric read with every operand in range is the PCI_READ. The two kinds
of call are the model's choice (log 16), and so are that such a write of width 32 is refused, of which R270 does not speak
(log 16), and the form of a refusal (log 2). -/
def Obligations.CallsWithoutWordAreRefused : Prop :=
  (∀ (s : State) (rest : List Request) (w : Width) (bus : BitVec 8) (dev : BitVec 5) (fn : BitVec 3) (off : Byte)
      (v : BitVec 16), s.requests = ⟨.subwordWrite w bus dev fn off v, false⟩ :: rest →
    step s = .next { s with requests := rest,
                            pci := { s.pci with refused := true, result := .refused .subwordConfigWrite } }) ∧
  ∀ (s : State) (rest : List Request) (w : Width) (bus dev fn off : Nat),
    s.requests = ⟨.numericRead w bus dev fn off, false⟩ :: rest →
    (bus > 255 ∨ dev > 31 ∨ fn > 7 ∨ off > 255 →
      step s = .next { s with requests := rest,
                              pci := { s.pci with refused := true, result := .refused .illTyped } }) ∧
    (∀ (b : BitVec 8) (d : BitVec 5) (f : BitVec 3) (o : Byte),
      b.toNat = bus → d.toNat = dev → f.toNat = fn → o.toNat = off →
      step s = exec (.pciRead w b d f o) { s with requests := rest })

/-! ### The scancode decoder, row by row -/

/-- The rows of Start (R142, R143, R144); an entry of value 0 is emitted like any other (D6). -/
def Obligations.StartRows : Prop :=
  ∀ s : State, s.kbd.st = 0x0#4 →
    exec .feedStartE0 s = .next { s with kbd := s.kbd.after .extendedPrefix none } ∧
    exec .feedStartE1 s = .next { s with kbd := s.kbd.after .pauseSeq1 none } ∧
    ∀ b : Byte, b ≠ 0xE0#8 → b ≠ 0xE1#8 → exec (.feedStartKey b) s =
      .next { s with kbd := s.kbd.after .start (some (s.kbd.params.baseTable[b.toNat % 128]'(by omega))) }

/-- The rows of ExtendedPrefix (R145, R146, R148, and R147, which rests on decision D7). -/
def Obligations.ExtendedPrefixRows : Prop :=
  ∀ s : State, s.kbd.st = 0x1#4 →
    exec .feedExt2A s = .next { s with kbd := s.kbd.after .prtScPressWait1 none } ∧
    exec .feedExtB7 s = .next { s with kbd := s.kbd.after .prtScReleaseWait1 none } ∧
    ∀ b : Byte, b ≠ 0x2A#8 → b ≠ 0xB7#8 →
      (b ∈ s.kbd.params.extErrorSet → exec (.feedExtError b) s = .next { s with kbd := s.kbd.after .error none }) ∧
      (b ∉ s.kbd.params.extErrorSet → exec (.feedExtKey b) s =
        .next { s with kbd := s.kbd.after .start (some (s.kbd.params.baseTable[b.toNat % 128 + 0x50]'(by omega))) })

/-- The rows of the Pause sequence (R149 to R155); the event codes are parameters (D8). -/
def Obligations.PauseRows : Prop :=
  (∀ s : State, s.kbd.st = 0x2#4 →
    exec .feedPauseSeq1On1D s = .next { s with kbd := s.kbd.after .pausePressWait none } ∧
    exec .feedPauseSeq1On9D s = .next { s with kbd := s.kbd.after .pauseReleaseWait none } ∧
    ∀ b : Byte, b ≠ 0x1D#8 → b ≠ 0x9D#8 →
      exec (.feedPauseSeq1Other b) s = .next { s with kbd := s.kbd.after .error none }) ∧
  (∀ s : State, s.kbd.st = 0x3#4 →
    exec .feedPausePressWaitOn45 s = .next { s with kbd := s.kbd.after .start (some s.kbd.params.pausePressCode) } ∧
    ∀ b : Byte, b ≠ 0x45#8 →
      exec (.feedPausePressWaitOther b) s = .next { s with kbd := s.kbd.after .error none }) ∧
  ∀ s : State, s.kbd.st = 0x4#4 →
    exec .feedPauseReleaseWaitOnC5 s =
      .next { s with kbd := s.kbd.after .start (some s.kbd.params.pauseReleaseCode) } ∧
    ∀ b : Byte, b ≠ 0xC5#8 →
      exec (.feedPauseReleaseWaitOther b) s = .next { s with kbd := s.kbd.after .error none }

/-- The rows of the two Print Screen sequences (R156 to R159 press, R160 to R163 release); the
event codes are parameters (D8). -/
def Obligations.PrintScreenRows : Prop :=
  (∀ s : State, s.kbd.st = 0x5#4 →
    exec .feedPrtScPressWait1OnE0 s = .next { s with kbd := s.kbd.after .prtScPressWait2 none } ∧
    ∀ b : Byte, b ≠ 0xE0#8 →
      exec (.feedPrtScPressWait1Other b) s = .next { s with kbd := s.kbd.after .error none }) ∧
  (∀ s : State, s.kbd.st = 0x6#4 →
    exec .feedPrtScPressWait2On37 s = .next { s with kbd := s.kbd.after .start (some s.kbd.params.prtScPressCode) } ∧
    ∀ b : Byte, b ≠ 0x37#8 →
      exec (.feedPrtScPressWait2Other b) s = .next { s with kbd := s.kbd.after .error none }) ∧
  (∀ s : State, s.kbd.st = 0x7#4 →
    exec .feedPrtScReleaseWait1OnE0 s = .next { s with kbd := s.kbd.after .prtScReleaseWait2 none } ∧
    ∀ b : Byte, b ≠ 0xE0#8 →
      exec (.feedPrtScReleaseWait1Other b) s = .next { s with kbd := s.kbd.after .error none }) ∧
  ∀ s : State, s.kbd.st = 0x8#4 →
    exec .feedPrtScReleaseWait2OnAA s =
      .next { s with kbd := s.kbd.after .start (some s.kbd.params.prtScReleaseCode) } ∧
    ∀ b : Byte, b ≠ 0xAA#8 →
      exec (.feedPrtScReleaseWait2Other b) s = .next { s with kbd := s.kbd.after .error none }

/-- The row of Error (R164): any byte is dropped and the decoder returns to Start. -/
def Obligations.ErrorRow : Prop :=
  ∀ (s : State) (b : Byte), s.kbd.st = 0xA#4 →
    exec (.feedErrorAny b) s = .next { s with kbd := s.kbd.after .start none }

/-- ACK (R235): the head command leaves the FIFO, the decoder returns to Start, and nothing is emitted. The next state
is said whole; `start` and `len` count modulo 16 and down by one. -/
def Obligations.AckDequeuesHead : Prop :=
  ∀ s : State, s.kbd.st = 0x9#4 → s.kbd.q.len ≠ 0#5 →
    exec .feedAwaitingAck s = .next { s with kbd :=
      { s.kbd.after .start none with
        q := { s.kbd.q with start := s.kbd.q.start + 1#4, len := s.kbd.q.len - 1#5 } } } ∧
    (s.kbd.q.start + 1#4).toNat = (s.kbd.q.start.toNat + 1) % 16 ∧
    (s.kbd.q.len - 1#5).toNat = s.kbd.q.len.toNat - 1

/-- RESEND (R236; decision D13): the head command's bytes are written to port 0x60 again, and the decoder stays. -/
def Obligations.ResendTransmitsHeadAgain : Prop :=
  ∀ (s : State) (cmd : ControllerCommand), s.kbd.st = 0x9#4 → s.kbd.q.len ≠ 0#5 →
    s.kbd.q.buf[s.kbd.q.start.toNat]'(s.kbd.q.start.isLt) = some cmd →
    exec .feedAwaitingResend s = .next { s with kbd :=
      { s.kbd with
        history := .emit none :: (commandWrites s.kbd.params cmd ++ s.kbd.history), result := .emitted none } }

/-- Any other response (R237; decision D14): the decoder returns to Start and the command stays queued. -/
def Obligations.OtherResponseKeepsHead : Prop :=
  ∀ (s : State) (b : Byte), s.kbd.st = 0x9#4 → b ≠ s.kbd.params.ackByte → b ≠ s.kbd.params.resendByte →
    exec (.feedAwaitingOther b) s = .next { s with kbd := s.kbd.after .start none }

/-- In a state code 0xB to 0xF every FEED, its row, TRY_DISPATCH and (once the callback is registered) POLL is refused
with nothing but the sticky mark (R106, R49; decision D4). The form of a refusal is the model's choice (log 2), and so
is the order of POLL's two tests (log 19). -/
def Obligations.BadStateCodeIsRefused : Prop :=
  ∀ (s : State) (b : Byte), 0xB ≤ s.kbd.st.toNat →
    exec (.feedUnusedState s.kbd.st b) s =
      .next { s with kbd := { s.kbd with refused := true, result := .refused .badStateCode } } ∧
    exec (.feed b) s = .next { s with kbd := { s.kbd with refused := true, result := .refused .badStateCode } } ∧
    exec .tryDispatch s = .next { s with kbd := { s.kbd with refused := true, result := .refused .badStateCode } } ∧
    (s.kbd.callbackRegistered = true →
      exec .poll s = .next { s with kbd := { s.kbd with refused := true, result := .refused .badStateCode } })

/-! ### The scancode decoder, whole -/

/-- FEED completes in every state but AwaitingControllerResponse, and writes nothing but `st` and its output; it emits a
value exactly in the cases of R166, each of which ends in Start. -/
def Obligations.FeedOutputDiscipline : Prop :=
  ∀ (s : State) (b : Byte), s.kbd.st.toNat ≤ 0xA → s.kbd.st ≠ 0x9#4 →
    ∃ (d : DecoderState) (e : Option Byte),
      exec (.feed b) s = .next { s with kbd := s.kbd.after d e } ∧
      (e.isSome = true → d = .start) ∧
      (e.isSome = true ↔
        (s.kbd.st = 0x0#4 ∧ b ≠ 0xE0#8 ∧ b ≠ 0xE1#8) ∨
        (s.kbd.st = 0x1#4 ∧ b ≠ 0x2A#8 ∧ b ≠ 0xB7#8 ∧ b ∉ s.kbd.params.extErrorSet) ∨
        (s.kbd.st = 0x3#4 ∧ b = 0x45#8) ∨ (s.kbd.st = 0x4#4 ∧ b = 0xC5#8) ∨
        (s.kbd.st = 0x6#4 ∧ b = 0x37#8) ∨ (s.kbd.st = 0x8#4 ∧ b = 0xAA#8))

/-- FEED in AwaitingControllerResponse is the response handling (R165, R234): ACK, RESEND (where they differ, R8), or any
other byte; the byte is never decoded as a scancode. -/
def Obligations.FeedWhileAwaitingIsResponse : Prop :=
  ∀ (s : State) (b : Byte) (cmd : ControllerCommand), s.kbd.st = 0x9#4 → s.kbd.q.len ≠ 0#5 →
    s.kbd.q.buf[s.kbd.q.start.toNat]'(s.kbd.q.start.isLt) = some cmd →
    (b = s.kbd.params.ackByte → exec (.feed b) s = .next { s with kbd :=
      { s.kbd.after .start none with
        q := { s.kbd.q with start := s.kbd.q.start + 1#4, len := s.kbd.q.len - 1#5 } } }) ∧
    (b ≠ s.kbd.params.ackByte → b = s.kbd.params.resendByte → exec (.feed b) s = .next { s with kbd :=
      { s.kbd with
        history := .emit none :: (commandWrites s.kbd.params cmd ++ s.kbd.history), result := .emitted none } }) ∧
    (b ≠ s.kbd.params.ackByte → b ≠ s.kbd.params.resendByte →
      exec (.feed b) s = .next { s with kbd := s.kbd.after .start none })

/-- The self-healing bound (R167): from any state but AwaitingControllerResponse the decoder is in Start after at most
four more bytes, whatever they are. In AwaitingControllerResponse with a command in flight, any byte but RESEND_BYTE
returns to Start, and RESEND_BYTE keeps the state. -/
def Obligations.DecoderHealsWithinFourBytes : Prop :=
  (∀ (s : State) (b₁ b₂ b₃ b₄ : Byte), s.kbd.st.toNat ≤ 0xA → s.kbd.st ≠ 0x9#4 →
    ∃ n t, n ≤ 4 ∧ feedAll ([b₁, b₂, b₃, b₄].take n) s = .next t ∧ t.kbd.st = 0x0#4) ∧
  ∀ (s : State) (b : Byte), s.kbd.Inv → s.kbd.st = 0x9#4 →
    (b ≠ s.kbd.params.resendByte → ∃ t, exec (.feed b) s = .next t ∧ t.kbd.st = 0x0#4) ∧
    (b = s.kbd.params.resendByte → ∃ t, exec (.feed b) s = .next t ∧ t.kbd.st = 0x9#4 ∧ t.kbd.q = s.kbd.q)

/-- The forms of R103, fed from Start: each ends in Start with one output, and every earlier byte emits none. Histories
are newest first. -/
def Obligations.EscapeFormsEmitOnce : Prop :=
  ∀ s : State, s.kbd.st = 0x0#4 →
    (∀ c : Byte, c ≠ 0x2A#8 → c ≠ 0xB7#8 → c ∉ s.kbd.params.extErrorSet →
      ∃ e, s.kbd.params.baseTable[c.toNat % 128 + 0x50]'(by omega) = e ∧
      feedAll [0xE0#8, c] s = .next { s with kbd :=
        { s.kbd with history := .emit (some e) :: .emit none :: s.kbd.history, result := .emitted (some e) } }) ∧
    feedAll [0xE0#8, 0x2A#8, 0xE0#8, 0x37#8] s = .next { s with kbd :=
      { s.kbd with
        history := .emit (some s.kbd.params.prtScPressCode) :: .emit none :: .emit none :: .emit none ::
          s.kbd.history,
        result := .emitted (some s.kbd.params.prtScPressCode) } } ∧
    feedAll [0xE0#8, 0xB7#8, 0xE0#8, 0xAA#8] s = .next { s with kbd :=
      { s.kbd with
        history := .emit (some s.kbd.params.prtScReleaseCode) :: .emit none :: .emit none :: .emit none ::
          s.kbd.history,
        result := .emitted (some s.kbd.params.prtScReleaseCode) } } ∧
    feedAll [0xE1#8, 0x1D#8, 0x45#8] s = .next { s with kbd :=
      { s.kbd with
        history := .emit (some s.kbd.params.pausePressCode) :: .emit none :: .emit none :: s.kbd.history,
        result := .emitted (some s.kbd.params.pausePressCode) } } ∧
    feedAll [0xE1#8, 0x9D#8, 0xC5#8] s = .next { s with kbd :=
      { s.kbd with
        history := .emit (some s.kbd.params.pauseReleaseCode) :: .emit none :: .emit none :: s.kbd.history,
        result := .emitted (some s.kbd.params.pauseReleaseCode) } }

/-! ### The command queue -/

/-- ENQUEUE (R230, R231): on a full queue the answer is false and nothing else changes; otherwise the command is written
in slot (start + len) mod 16, len counts one more and the answer is true. -/
def Obligations.EnqueueWritesTailSlot : Prop :=
  ∀ (s : State) (id data : Byte), s.kbd.q.len.toNat ≤ 16 →
    (s.kbd.q.len = 16#5 →
      exec (.enqueue id data) s = .next { s with kbd := { s.kbd with result := .accepted false } }) ∧
    (s.kbd.q.len ≠ 16#5 → ∃ buf,
      exec (.enqueue id data) s = .next { s with kbd :=
        { s.kbd with q := { s.kbd.q with buf := buf, len := s.kbd.q.len + 1#5 }, result := .accepted true } } ∧
      (s.kbd.q.len + 1#5).toNat = s.kbd.q.len.toNat + 1 ∧
      ∀ j : Fin 16, buf[j] =
        if j.val = (s.kbd.q.start.toNat + s.kbd.q.len.toNat) % 16 then some ⟨id, data⟩ else s.kbd.q.buf[j])

/-- The circular FIFO is a queue (R40, R41, R239): an accepted ENQUEUE appends its command, an ACK removes the first,
a refused ENQUEUE, a RESEND, any other response and TRY_DISPATCH leave the queued commands as they are. -/
def Obligations.FifoRefinesQueue : Prop :=
  ∀ (s t : State), s.kbd.q.wf →
    (∀ id data : Byte, exec (.enqueue id data) s = .next t →
      (s.kbd.q.queued.length = 16 ∧ t.kbd.q.queued = s.kbd.q.queued ∧ t.kbd.result = .accepted false) ∨
      (s.kbd.q.queued.length < 16 ∧ t.kbd.q.queued = s.kbd.q.queued ++ [⟨id, data⟩] ∧
        t.kbd.result = .accepted true)) ∧
    (exec .feedAwaitingAck s = .next t → ∃ cmd, s.kbd.q.queued = cmd :: t.kbd.q.queued) ∧
    (exec .feedAwaitingResend s = .next t → t.kbd.q.queued = s.kbd.q.queued) ∧
    (∀ b, exec (.feedAwaitingOther b) s = .next t → t.kbd.q.queued = s.kbd.q.queued) ∧
    (exec .tryDispatch s = .next t → t.kbd.q.queued = s.kbd.q.queued)

/-- The dispatch gate (R232): from Start with a command queued, the head command's bytes go to port 0x60 and the decoder
awaits the response; in any other of the eleven states, or with an empty queue, there is no effect and no port access.
That an empty queue has no effect is the spec's own choice, on which the source is silent (decision D12). -/
def Obligations.DispatchOnlyFromStart : Prop :=
  (∀ (s : State) (cmd : ControllerCommand), s.kbd.st = 0x0#4 → s.kbd.q.len ≠ 0#5 →
    s.kbd.q.buf[s.kbd.q.start.toNat]'(s.kbd.q.start.isLt) = some cmd →
    exec .tryDispatch s = .next { s with kbd :=
      { s.kbd with
        st := 0x9#4, history := commandWrites s.kbd.params cmd ++ s.kbd.history, result := .nothing } }) ∧
  ∀ s : State, s.kbd.st.toNat ≤ 0xA → s.kbd.st ≠ 0x0#4 ∨ s.kbd.q.len = 0#5 →
    exec .tryDispatch s = .next { s with kbd := { s.kbd with result := .nothing } }

/-- The FIFO shrinks only by an ACK in AwaitingControllerResponse, by exactly its head, and by RESET (R41). -/
def Obligations.OnlyAckDequeues : Prop :=
  ∀ (i : Instr) (s t : State), s.kbd.q.wf → i ≠ .reset → exec i s = .next t →
    t.kbd.q.len.toNat < s.kbd.q.len.toNat →
      s.kbd.st = 0x9#4 ∧ t.kbd.st = 0x0#4 ∧
      t.kbd.q = { s.kbd.q with start := s.kbd.q.start + 1#4, len := s.kbd.q.len - 1#5 } ∧
      (i = .feedAwaitingAck ∨ i = .feed s.kbd.params.ackByte ∨
        (i = .poll ∧ ∃ x, t.kbd.history = .emit none :: .read8 0x0060#16 s.kbd.params.ackByte :: .read8 0x0064#16 x ::
          s.kbd.history))

/-- The only command ever sent is the head of the FIFO, and only by a dispatch from Start or, in
AwaitingControllerResponse, by a RESEND: its row, FEED of RESEND_BYTE, or a POLL that read it (R32, R233, R236, R239;
decision D13). Every port write of the Keyboard Unit is such a sending. -/
def Obligations.OnlyHeadCommandIsSent : Prop :=
  ∀ (i : Instr) (s t : State), exec i s = .next t → portWrites t.kbd.history ≠ portWrites s.kbd.history →
    t.kbd.st = 0x9#4 ∧ t.kbd.q = s.kbd.q ∧ s.kbd.q.len ≠ 0#5 ∧
    ∃ cmd, s.kbd.q.buf[s.kbd.q.start.toNat]'(s.kbd.q.start.isLt) = some cmd ∧
      portWrites t.kbd.history = commandWrites s.kbd.params cmd ++ portWrites s.kbd.history ∧
      (s.kbd.st = 0x0#4 ∧ i = .tryDispatch ∨
        s.kbd.st = 0x9#4 ∧ (i = .feedAwaitingResend ∨ i = .feed s.kbd.params.resendByte ∨
          (i = .poll ∧ ∃ x, t.kbd.history = .emit none :: (commandWrites s.kbd.params cmd ++
            .read8 0x0060#16 s.kbd.params.resendByte :: .read8 0x0064#16 x :: s.kbd.history))))

/-! ### The ModifierTracker -/

/-- MOD_APPLY completes, and KeyFlags change as R201, R202 and R203 say: bit 0 is the press, a held bit mirrors a press
or release of its own key, a lock bit toggles on a press of its own key, and every other bit stays. The result is the
adjusted character and the new flags. -/
def Obligations.ModApplyFlags : Prop :=
  ∀ (s : State) (c raw : Byte), s.kbd.params.wf = true →
    ∃ (f : BitVec 16) (c2 : Byte),
      exec (.modApply c raw) s =
        .next { s with kbd := { s.kbd with flags := f, result := .adjusted c2 f } } ∧
      f.getLsbD 0 = !raw.getLsbD 7 ∧
      f.getLsbD 1 = (if c = s.kbd.params.lockCaps ∧ raw.getLsbD 7 = false then !s.kbd.flags.getLsbD 1
        else s.kbd.flags.getLsbD 1) ∧
      f.getLsbD 2 = (if c = s.kbd.params.lockNum ∧ raw.getLsbD 7 = false then !s.kbd.flags.getLsbD 2
        else s.kbd.flags.getLsbD 2) ∧
      f.getLsbD 3 = (if c = s.kbd.params.lockScroll ∧ raw.getLsbD 7 = false then !s.kbd.flags.getLsbD 3
        else s.kbd.flags.getLsbD 3) ∧
      f.getLsbD 4 = (if c = s.kbd.params.modLShift then !raw.getLsbD 7 else s.kbd.flags.getLsbD 4) ∧
      f.getLsbD 5 = (if c = s.kbd.params.modRShift then !raw.getLsbD 7 else s.kbd.flags.getLsbD 5) ∧
      f.getLsbD 6 = (if c = s.kbd.params.modLCtrl then !raw.getLsbD 7 else s.kbd.flags.getLsbD 6) ∧
      f.getLsbD 7 = (if c = s.kbd.params.modRCtrl then !raw.getLsbD 7 else s.kbd.flags.getLsbD 7) ∧
      f.getLsbD 8 = (if c = s.kbd.params.modLAlt then !raw.getLsbD 7 else s.kbd.flags.getLsbD 8) ∧
      f.getLsbD 9 = (if c = s.kbd.params.modRAlt then !raw.getLsbD 7 else s.kbd.flags.getLsbD 9) ∧
      ∀ i, 10 ≤ i → f.getLsbD i = s.kbd.flags.getLsbD i

/-- The adjusted character (R204, R205, R206), from the flags after the update: a lowercase letter is made uppercase
when Caps Lock and Shift differ; else with Shift held a raw byte inside the shift table is substituted; else the
character stays. -/
def Obligations.ModApplyCharacter : Prop :=
  ∀ (s : State) (c raw : Byte), ∃ (f : BitVec 16) (c2 : Byte),
    exec (.modApply c raw) s =
      .next { s with kbd := { s.kbd with flags := f, result := .adjusted c2 f } } ∧
    (0x61 ≤ c.toNat → c.toNat ≤ 0x7A →
      c2.toNat = if (f.getLsbD 1 ^^ (f.getLsbD 4 || f.getLsbD 5)) = true then c.toNat - 0x20 else c.toNat) ∧
    (c.toNat < 0x61 ∨ 0x7A < c.toNat →
      (∀ h : raw.toNat < s.kbd.params.shiftTableLen.val, (f.getLsbD 4 || f.getLsbD 5) = true →
        c2 = s.kbd.params.shiftTable[raw.toNat]'(by have := s.kbd.params.shiftTableLen.isLt; omega)) ∧
      (s.kbd.params.shiftTableLen.val ≤ raw.toNat ∨ (f.getLsbD 4 || f.getLsbD 5) = false → c2 = c))

/-! ### KeyboardPoll -/

/-- POLL with no byte waiting (R311): one read of the status port and nothing more. -/
def Obligations.PollWithoutByteReadsStatusOnly : Prop :=
  ∀ s : State, s.kbd.callbackRegistered = true → s.kbd.st.toNat ≤ 0xA → s.kbd.nextDraw.getLsbD 0 = false →
    exec .poll s = .next { s with kbd := { s.kbd.afterRead 0x0064#16 with result := .nothing } }

/-- POLL before the callback is registered is refused (R314; decision D37). The form of the refusal is the model's choice
(log 2), and so is that the refusal comes before the status read and before the test of an unused state code (log 19). -/
def Obligations.PollBeforeRegistrationIsRefused : Prop :=
  ∀ s : State, s.kbd.callbackRegistered = false →
    exec .poll s = .next { s with kbd := { s.kbd with refused := true, result := .refused .pollBeforeRegistration } }

/-- POLL with a byte waiting (R310, R312, R313, R316): one status read, one data read, FEED of that byte; an output goes
through MOD_APPLY, and to the callback if it is a press. -/
def Obligations.PollRoutesByte : Prop :=
  ∀ (s u : State) (b : Byte), s.kbd.callbackRegistered = true → s.kbd.st.toNat ≤ 0xA →
    s.kbd.nextDraw.getLsbD 0 = true → (s.kbd.afterRead 0x0064#16).nextDraw = b →
    exec (.feed b) { s with kbd := (s.kbd.afterRead 0x0064#16).afterRead 0x0060#16 } = .next u →
    (u.kbd.result = .emitted none → exec .poll s = .next { u with kbd := { u.kbd with result := .nothing } }) ∧
    ∀ c, u.kbd.result = .emitted (some c) →
      ∃ (c2 : Byte) (f : BitVec 16),
        exec (.modApply c b) u = .next { u with kbd := { u.kbd with flags := f, result := .adjusted c2 f } } ∧
        exec .poll s = .next { u with kbd :=
          { u.kbd with
            flags := f, result := .nothing,
            history := if b.getLsbD 7 = false then .callback c2 b f :: u.kbd.history else u.kbd.history } }

/-- A POLL that finds a single-byte key in Start completes (R310, vector VF3): status read, data read, the table entry
emitted, KeyFlags updated, and the callback on a press. The adjusted character and the flags are the functions MOD_APPLY
uses. -/
def Obligations.PollDeliversKey : Prop :=
  ∀ (s : State) (b : Byte), s.kbd.callbackRegistered = true → s.kbd.st = 0x0#4 → s.kbd.nextDraw.getLsbD 0 = true →
    (s.kbd.afterRead 0x0064#16).nextDraw = b → b ≠ 0xE0#8 → b ≠ 0xE1#8 →
    ∃ (c : Byte) (f : BitVec 16), s.kbd.params.baseTable[b.toNat % 128]'(by omega) = c ∧
      f = updateFlags s.kbd.params c b s.kbd.flags ∧
      exec .poll s = .next { s with kbd :=
        { s.kbd with
          draws := s.kbd.draws.tail.tail, drawCount := s.kbd.drawCount + 2, flags := f, result := .nothing,
          history := (if b.getLsbD 7 = false then [.callback (adjustChar s.kbd.params c b f) b f] else []) ++
            (.emit (some c) :: .read8 0x0060#16 b :: .read8 0x0064#16 s.kbd.nextDraw :: s.kbd.history) } }

/-- Callbacks come from POLL alone, one at a time, and only for presses (R208, R313). -/
def Obligations.CallbacksArePressesFromPoll : Prop :=
  ∀ (i : Instr) (s t : State), exec i s = .next t → callbacks t.kbd.history ≠ callbacks s.kbd.history →
    i = .poll ∧ ∃ (c raw : Byte) (f : BitVec 16), raw.getLsbD 7 = false ∧ f.getLsbD 0 = true ∧ t.kbd.flags = f ∧
      callbacks t.kbd.history = .callback c raw f :: callbacks s.kbd.history

/-! ### The PCI Unit -/

/-- The address word (R110, R111, R260): each field where the table puts it, as one sum; off and off with other low two
bits give the same word. -/
def Obligations.AddressWordFields : Prop :=
  ∀ (bus : BitVec 8) (dev : BitVec 5) (fn : BitVec 3) (off : Byte),
    (addrEnc bus dev fn off).toNat =
      0x80000000 + bus.toNat * 0x10000 + dev.toNat * 0x800 + fn.toNat * 0x100 + off.toNat / 4 * 4 ∧
    (addrEnc bus dev fn off).extractLsb' 31 1 = 1#1 ∧ (addrEnc bus dev fn off).extractLsb' 24 7 = 0#7 ∧
    (addrEnc bus dev fn off).extractLsb' 16 8 = bus ∧ (addrEnc bus dev fn off).extractLsb' 11 5 = dev ∧
    (addrEnc bus dev fn off).extractLsb' 8 3 = fn ∧ (addrEnc bus dev fn off).extractLsb' 2 6 = off.extractLsb' 2 6 ∧
    (addrEnc bus dev fn off).extractLsb' 0 2 = 0#2

/-- PCI_READ (R261 to R265): one address write, one data read, and the field at the offset as the result. The dword is
the environment's answer, but for the vendor-id field of a function the platform lacks (R271; which these are is the
model's `absent`, log 8). The widths 16 and 32 follow decisions D18 and D19. -/
def Obligations.PciReadSequence : Prop :=
  ∀ (s : State) (w : Width) (bus : BitVec 8) (dev : BitVec 5) (fn : BitVec 3) (off : Byte),
    ∃ a d v : Dword,
      exec (.pciRead w bus dev fn off) s = .next { s with pci :=
        { s.pci with
          addrLatch := a, draws := s.pci.draws.tail, drawCount := s.pci.drawCount + 1,
          history := .read32 0x0CFC#16 d :: .write32 0x0CF8#16 a :: s.pci.history, result := .value v } } ∧
      a.toNat = 0x80000000 + bus.toNat * 0x10000 + dev.toNat * 0x800 + fn.toNat * 0x100 + off.toNat / 4 * 4 ∧
      ((bus ++ dev ++ fn : BitVec 16) ∉ s.pci.absent ∨ 4 ≤ off.toNat → d = s.pci.nextDraw) ∧
      match w with
      | .w8 => v.toNat = d.toNat / 2 ^ (8 * (off.toNat % 4)) % 2 ^ 8
      | .w16 => v.toNat = d.toNat / 2 ^ (8 * (off.toNat % 4)) % 2 ^ 16
      | .w32 => v = d

/-- PCI_WRITE32 (R267, R268; decision D20): one address write, one data write of the whole value, whatever the offset's low bits. -/
def Obligations.PciWriteSequence : Prop :=
  ∀ (s : State) (bus : BitVec 8) (dev : BitVec 5) (fn : BitVec 3) (off : Byte) (v : Dword), ∃ a : Dword,
    exec (.pciWrite32 bus dev fn off v) s = .next { s with pci :=
      { s.pci with
        addrLatch := a, history := .write32 0x0CFC#16 v :: .write32 0x0CF8#16 a :: s.pci.history, result := .nothing } } ∧
    a.toNat = 0x80000000 + bus.toNat * 0x10000 + dev.toNat * 0x800 + fn.toNat * 0x100 + off.toNat / 4 * 4

/-- DEVICE_EXISTS (R266): the two transactions of one read of dword 0, and the answer whether the dword's low 16 bits are
not the sentinel. The dword is the environment's answer where the function is not in the model's `absent` (log 8). -/
def Obligations.DeviceExistsTestsVendorId : Prop :=
  ∀ (s : State) (bus : BitVec 8) (dev : BitVec 5) (fn : BitVec 3), ∃ a d : Dword,
    exec (.deviceExists bus dev fn) s = .next { s with pci :=
      { s.pci with
        addrLatch := a, draws := s.pci.draws.tail, drawCount := s.pci.drawCount + 1,
        history := .read32 0x0CFC#16 d :: .write32 0x0CF8#16 a :: s.pci.history,
        result := .present (decide (d.toNat % 0x10000 ≠ 0xFFFF)) } } ∧
    a.toNat = 0x80000000 + bus.toNat * 0x10000 + dev.toNat * 0x800 + fn.toNat * 0x100 ∧
    ((bus ++ dev ++ fn : BitVec 16) ∉ s.pci.absent → d = s.pci.nextDraw)

/-- A function the platform lacks (R271, R335): its vendor-id field reads 0xFFFF, DEVICE_EXISTS answers false, and the
rest of the dword is the environment's. Which functions are lacking is `absent` (log 8). -/
def Obligations.AbsentFunctionReadsSentinel : Prop :=
  ∀ (s : State) (bus : BitVec 8) (dev : BitVec 5) (fn : BitVec 3), (bus ++ dev ++ fn : BitVec 16) ∈ s.pci.absent →
    (∃ t, exec (.deviceExists bus dev fn) s = .next t ∧ t.pci.result = .present false) ∧
    (∃ t, exec (.pciRead .w16 bus dev fn 0x00#8) s = .next t ∧ t.pci.result = .value 0x0000FFFF#32) ∧
    ∃ t, exec (.pciRead .w16 bus dev fn 0x02#8) s = .next t ∧
      ∃ v, t.pci.result = .value v ∧ v.toNat = s.pci.nextDraw.toNat / 0x10000

/-- The reserved encodings (R118): PCI_READ with width code 3 marks the PCI Unit; the operation codes 0xA to 0xF belong
to neither unit and mark both, which is the model's choice (log 2; decision D39). Nothing else changes and there is no
transaction. -/
def Obligations.ReservedCodesAreRefused : Prop :=
  ∀ s : State,
    exec .pciReadReservedWidth s =
      .next { s with pci := { s.pci with refused := true, result := .refused .reservedOp } } ∧
    ∀ i ∈ [Instr.reservedA, .reservedB, .reservedC, .reservedD, .reservedE, .reservedF],
      exec i s = .next { s with kbd := { s.kbd with refused := true, result := .refused .reservedOp },
                                pci := { s.pci with refused := true, result := .refused .reservedOp } }

/-! ### The enumerator -/

/-- ENUMERATE completes with a count and that many entries, at most `max` and at most 65536 (R292, D23; R297); besides the
port traffic it changes nothing (its frame). -/
def Obligations.EnumerateBounded : Prop :=
  ∀ (s : State) (max : Dword), ∃ (a : Dword) (dr : List Dword) (n count : Nat) (h : List Event)
      (e : List (BitVec 16)),
    exec (.enumerate max) s = .next { s with pci :=
      { s.pci with addrLatch := a, draws := dr, drawCount := n, history := h, result := .entries count e } } ∧
    count = e.length ∧ count ≤ max.toNat ∧ count ≤ 65536

/-- The entries come in ascending (bus, device, function) order (R293): their packed values strictly rise. -/
def Obligations.EnumerateAscends : Prop :=
  ∀ (s t : State) (max : Dword) (count : Nat) (e : List (BitVec 16)),
    exec (.enumerate max) s = .next t → t.pci.result = .entries count e →
    (e.map BitVec.toNat).Pairwise (· < ·)

/-- The entries are what the scan's own reads found (R290, R292, R294): in the trace of the operation, the functions
whose vendor-id read answered something else than the sentinel, in that order, cut off at `max`. -/
def Obligations.EnumerateListsWhatItsReadsFound : Prop :=
  ∀ (s t : State) (max : Dword) (count : Nat) (e : List (BitVec 16)),
    exec (.enumerate max) s = .next t → t.pci.result = .entries count e →
    ∃ new, t.pci.history = new ++ s.pci.history ∧ e = (presentProbes new.reverse).take max.toNat

/-- No absent function is listed, and no function of a device whose function 0 is absent (R291, R271). -/
def Obligations.EnumerateSkipsAbsentDevices : Prop :=
  ∀ (s t : State) (max : Dword) (count : Nat) (e : List (BitVec 16)),
    exec (.enumerate max) s = .next t → t.pci.result = .entries count e →
    ∀ x ∈ e, x ∉ s.pci.absent ∧ x &&& 0xFFF8#16 ∉ s.pci.absent

/-- The whole port trace of ENUMERATE, and its next state (R296, R290 to R292, R294; the stop and the order of accesses
are decisions D23 and D24). The scan is a chain of configuration reads and never writes PCI_DATA_PORT. It begins at
function 0 of bus 0, device 0, each read leads to the next one as `scanNext` says, and it ends where the space ends with
at most `max` functions found, or at the probe that finds one function more. Each answer is the environment's, but for
the vendor-id field of a function the platform lacks (R271; which these are is the model's `absent`, log 8). -/
def Obligations.EnumerateTraffic : Prop :=
  ∀ (s : State) (max : Dword), ∃ (trips : List (Dword × Dword)) (last : Dword × Dword) (e : List (BitVec 16)),
    exec (.enumerate max) s = .next { s with pci :=
      { s.pci with
        addrLatch := last.1, draws := s.pci.draws.drop trips.length, drawCount := s.pci.drawCount + trips.length,
        history := (roundTrips trips).reverse ++ s.pci.history, result := .entries e.length e } } ∧
    e = (presentProbes (roundTrips trips)).take max.toNat ∧
    (∀ p ∈ trips, addressWord p.1) ∧ trips.length ≤ 8192 * 9 ∧
    trips.head?.map Prod.fst = some (slotWord 0) ∧ trips.getLast? = some last ∧
    trips.IsChain (fun p q => scanNext p.1 p.2 = some q.1) ∧
    ((scanNext last.1 last.2 = none ∧ (presentProbes (roundTrips trips)).length ≤ max.toNat) ∨
      (last.1.extractLsb' 2 6 = 0#6 ∧ last.2.setWidth 16 ≠ 0xFFFF#16 ∧
        (presentProbes (roundTrips trips)).length = max.toNat + 1)) ∧
    ∀ (k : Nat) (p : Dword × Dword), trips[k]? = some p →
      (p.1.extractLsb' 8 16 ∉ s.pci.absent ∨ p.1.extractLsb' 2 6 ≠ 0#6 → p.2 = s.pci.drawAt k) ∧
      (p.1.extractLsb' 8 16 ∈ s.pci.absent → p.1.extractLsb' 2 6 = 0#6 → p.2.setWidth 16 = 0xFFFF#16)

/-- With every function 0 absent the scan makes one read in each of the 8192 slots, in order, of dword 0 of its function
0, and lists nothing, whatever `max` is (R292, R296, vector VE6). Which functions are absent is the model's `absent`
(log 8). -/
def Obligations.EnumerateEmptySpace : Prop :=
  ∀ (s : State) (max : Dword), (∀ (bus : BitVec 8) (dev : BitVec 5), (bus ++ dev ++ 0#3 : BitVec 16) ∈ s.pci.absent) →
    ∃ (t : State) (trips : List (Dword × Dword)), exec (.enumerate max) s = .next t ∧ t.pci.result = .entries 0 [] ∧
      t.pci.drawCount = s.pci.drawCount + 8192 ∧ t.pci.history = (roundTrips trips).reverse ++ s.pci.history ∧
      trips.map Prod.fst = (List.range 8192).map slotWord

/-! ### Reset -/

/-- RESET (R360, R361): Start, KeyFlags 0, an empty FIFO whose slots hold no value; no transaction, no output, and the
sticky marks stay. The values of KeyFlags and of the FIFO are the spec's own choice (D17; log 14); that the result is
`nothing` is the model's (log 25). -/
def Obligations.ResetRestartsKeyboardUnit : Prop :=
  ∀ s : State, ∃ q : Fifo,
    exec .reset s = .next { s with kbd := { s.kbd with st := 0x0#4, flags := 0x0000#16, q := q, result := .nothing } } ∧
    q.start = 0#4 ∧ q.len = 0#5 ∧ ∀ j : Fin 16, q.buf[j] = none

/-- The state after reset (R51): the values the spec gives (its own choice for KeyFlags and the FIFO, D17; log 14). -/
def Obligations.ResetStateValues : Prop :=
  State.reset.kbd.st = DecoderState.code .start ∧ State.reset.kbd.flags = 0x0000#16 ∧
  State.reset.kbd.q.start = 0#4 ∧ State.reset.kbd.q.len = 0#5 ∧ (∀ j : Fin 16, State.reset.kbd.q.buf[j] = none) ∧
  State.reset.unrefused

/-- The invariant holds after reset (R41, R43, R36; R8 for the parameters, whose values at reset are the model's
choice, logs 10, 11, 12, 20 and 24). -/
def Obligations.ResetInvariant : Prop := State.reset.Inv

/-! ### The whole machine -/

/-- Every step keeps the invariant (R31, R36, R41, R43, R44, R71, R112, R209, R313). -/
def Obligations.StepKeepsInvariant : Prop :=
  ∀ s t : State, s.Inv → step s = .next t → t.Inv

/-- In a state that keeps the invariant no step stops: there is no trap, and the two model faults are out of reach
(R44, R272, R330). That a refused call (a reserved code, an overlap, a sub-word write) answers a next state is the model's
choice (log 2), and so is that a step with no call waiting does (log 1). -/
def Obligations.StepNeverStops : Prop :=
  ∀ s : State, s.Inv → ∃ t, step s = .next t

/-- The units are independent (R1, R87): an operation of the Keyboard Unit, or RESET (R360: the PCI Unit has no state to
reset), and an operation of the PCI Unit commute. -/
def Obligations.UnitsCommute : Prop :=
  ∀ (i j : Instr) (s t u : State), unitsOf i = ⟨true, false⟩ ∨ i = .reset → unitsOf j = ⟨false, true⟩ →
    exec i s = .next t → exec j t = .next u → ∃ t', exec j s = .next t' ∧ exec i t' = .next u

/-- An operation leaves the other unit as it is (R1, R45, R87). Every operation leaves the caller's list as it is, which is
a list the model invents (log 1). -/
def Obligations.OtherUnitIsUntouched : Prop :=
  ∀ (i : Instr) (s t : State), exec i s = .next t →
    (unitsOf i = ⟨true, false⟩ → t.pci = s.pci) ∧ (unitsOf i = ⟨false, true⟩ → t.kbd = s.kbd) ∧
    t.requests = s.requests

/-- What any operation does to the Keyboard Unit depends on that unit alone (R87): of two states with the same Keyboard
Unit, if one answers a next state so does the other, with the same Keyboard Unit after. RESET and the reserved codes are
no exception. -/
def Obligations.KeyboardDoesNotSeePci : Prop :=
  ∀ (i : Instr) (s s' t : State), s.kbd = s'.kbd → exec i s = .next t →
    ∃ t', exec i s' = .next t' ∧ t'.kbd = t.kbd

/-- What any operation does to the PCI Unit depends on that unit alone (R87): two states with the same PCI Unit have the
same PCI Unit after it, and an operation the PCI Unit takes part in answers a next state from every state: its own
operations (R272) and RESET (R360). That a reserved code, and PCI_READ with width code 3, answer a next state is the
model's choice (log 2), and so is that RESET and the reserved codes count for both units (log 2, log 15). -/
def Obligations.PciDoesNotSeeKeyboard : Prop :=
  ∀ (i : Instr) (s s' : State), s.pci = s'.pci →
    (∀ t t', exec i s = .next t → exec i s' = .next t' → t'.pci = t.pci) ∧
    ((unitsOf i).pci = true → ∃ t t', exec i s = .next t ∧ exec i s' = .next t')

/-- The tables and the other parameters are immutable (R35, R38, R50, R73): no step writes them. Which parameters State
holds is the model's choice (log 12), and so is that the list of absent functions never changes: no hot plugging (log 8). -/
def Obligations.ParametersAreImmutable : Prop :=
  ∀ s t : State, step s = .next t →
    t.kbd.params = s.kbd.params ∧ t.kbd.callbackRegistered = s.kbd.callbackRegistered ∧
    t.pci.entryBits = s.pci.entryBits ∧ t.pci.absent = s.pci.absent

/-- The sticky marks are never cleared, not even by RESET (R49, R361). -/
def Obligations.RefusedMarksAreSticky : Prop :=
  ∀ s t : State, step s = .next t →
    (s.kbd.refused = true → t.kbd.refused = true) ∧ (s.pci.refused = true → t.pci.refused = true)

/-- `st` is written by FEED and the FSM row it selects, TRY_DISPATCH, POLL (through FEED) and RESET, and by nothing else
(R33). -/
def Obligations.WhoWritesDecoderState : Prop :=
  ∀ (i : Instr) (s t : State), i.wellFormed s.kbd.params = true → exec i s = .next t → t.kbd.st ≠ s.kbd.st →
    (∃ b, i = .feed b ∨ i = decode s.kbd.params (.key (fsmKey s.kbd.st b))) ∨ i = .tryDispatch ∨ i = .poll ∨ i = .reset

/-- KeyFlags are written by MOD_APPLY, by POLL through it, and by RESET, and by nothing else (R37). -/
def Obligations.WhoWritesKeyFlags : Prop :=
  ∀ (i : Instr) (s t : State), exec i s = .next t → t.kbd.flags ≠ s.kbd.flags →
    (∃ c raw, i = .modApply c raw) ∨ i = .poll ∨ i = .reset

/-- A unit's transaction history only grows (R16, R17). -/
def Obligations.HistoriesOnlyGrow : Prop :=
  ∀ s t : State, step s = .next t →
    (∃ new, t.kbd.history = new ++ s.kbd.history) ∧ ∃ new, t.pci.history = new ++ s.pci.history
end

