-- ==== Sys2Proof/Laws/State.lean ====
section
/-!
SUPPORT. One lemma per field for every update of a unit, true by rfl: a proof about an update never unfolds it.
-/

namespace Sys2Proof.Machine

/-! ### Kbd.setSt -/

@[simp] theorem Kbd.setSt_st (k : Kbd) (d : DecoderState) : (k.setSt d).st = d.code := rfl
@[simp] theorem Kbd.setSt_q (k : Kbd) (d : DecoderState) : (k.setSt d).q = k.q := rfl
@[simp] theorem Kbd.setSt_flags (k : Kbd) (d : DecoderState) : (k.setSt d).flags = k.flags := rfl
@[simp] theorem Kbd.setSt_params (k : Kbd) (d : DecoderState) : (k.setSt d).params = k.params := rfl
@[simp] theorem Kbd.setSt_callbackRegistered (k : Kbd) (d : DecoderState) :
    (k.setSt d).callbackRegistered = k.callbackRegistered := rfl
@[simp] theorem Kbd.setSt_refused (k : Kbd) (d : DecoderState) : (k.setSt d).refused = k.refused := rfl
@[simp] theorem Kbd.setSt_history (k : Kbd) (d : DecoderState) : (k.setSt d).history = k.history := rfl
@[simp] theorem Kbd.setSt_draws (k : Kbd) (d : DecoderState) : (k.setSt d).draws = k.draws := rfl
@[simp] theorem Kbd.setSt_drawCount (k : Kbd) (d : DecoderState) : (k.setSt d).drawCount = k.drawCount := rfl
@[simp] theorem Kbd.setSt_result (k : Kbd) (d : DecoderState) : (k.setSt d).result = k.result := rfl

/-! ### Kbd.setResult -/

@[simp] theorem Kbd.setResult_st (k : Kbd) (r : OpResult) : (k.setResult r).st = k.st := rfl
@[simp] theorem Kbd.setResult_q (k : Kbd) (r : OpResult) : (k.setResult r).q = k.q := rfl
@[simp] theorem Kbd.setResult_flags (k : Kbd) (r : OpResult) : (k.setResult r).flags = k.flags := rfl
@[simp] theorem Kbd.setResult_params (k : Kbd) (r : OpResult) : (k.setResult r).params = k.params := rfl
@[simp] theorem Kbd.setResult_callbackRegistered (k : Kbd) (r : OpResult) :
    (k.setResult r).callbackRegistered = k.callbackRegistered := rfl
@[simp] theorem Kbd.setResult_refused (k : Kbd) (r : OpResult) : (k.setResult r).refused = k.refused := rfl
@[simp] theorem Kbd.setResult_history (k : Kbd) (r : OpResult) : (k.setResult r).history = k.history := rfl
@[simp] theorem Kbd.setResult_draws (k : Kbd) (r : OpResult) : (k.setResult r).draws = k.draws := rfl
@[simp] theorem Kbd.setResult_drawCount (k : Kbd) (r : OpResult) : (k.setResult r).drawCount = k.drawCount := rfl
@[simp] theorem Kbd.setResult_result (k : Kbd) (r : OpResult) : (k.setResult r).result = r := rfl

/-! ### Kbd.record -/

@[simp] theorem Kbd.record_st (k : Kbd) (e : Event) : (k.record e).st = k.st := rfl
@[simp] theorem Kbd.record_q (k : Kbd) (e : Event) : (k.record e).q = k.q := rfl
@[simp] theorem Kbd.record_flags (k : Kbd) (e : Event) : (k.record e).flags = k.flags := rfl
@[simp] theorem Kbd.record_params (k : Kbd) (e : Event) : (k.record e).params = k.params := rfl
@[simp] theorem Kbd.record_callbackRegistered (k : Kbd) (e : Event) :
    (k.record e).callbackRegistered = k.callbackRegistered := rfl
@[simp] theorem Kbd.record_refused (k : Kbd) (e : Event) : (k.record e).refused = k.refused := rfl
@[simp] theorem Kbd.record_history (k : Kbd) (e : Event) : (k.record e).history = e :: k.history := rfl
@[simp] theorem Kbd.record_draws (k : Kbd) (e : Event) : (k.record e).draws = k.draws := rfl
@[simp] theorem Kbd.record_drawCount (k : Kbd) (e : Event) : (k.record e).drawCount = k.drawCount := rfl
@[simp] theorem Kbd.record_result (k : Kbd) (e : Event) : (k.record e).result = k.result := rfl

/-! ### Kbd.emit -/

@[simp] theorem Kbd.emit_st (k : Kbd) (e : Option Byte) : (k.emit e).st = k.st := rfl
@[simp] theorem Kbd.emit_q (k : Kbd) (e : Option Byte) : (k.emit e).q = k.q := rfl
@[simp] theorem Kbd.emit_flags (k : Kbd) (e : Option Byte) : (k.emit e).flags = k.flags := rfl
@[simp] theorem Kbd.emit_params (k : Kbd) (e : Option Byte) : (k.emit e).params = k.params := rfl
@[simp] theorem Kbd.emit_callbackRegistered (k : Kbd) (e : Option Byte) :
    (k.emit e).callbackRegistered = k.callbackRegistered := rfl
@[simp] theorem Kbd.emit_refused (k : Kbd) (e : Option Byte) : (k.emit e).refused = k.refused := rfl
@[simp] theorem Kbd.emit_history (k : Kbd) (e : Option Byte) : (k.emit e).history = .emit e :: k.history := rfl
@[simp] theorem Kbd.emit_draws (k : Kbd) (e : Option Byte) : (k.emit e).draws = k.draws := rfl
@[simp] theorem Kbd.emit_drawCount (k : Kbd) (e : Option Byte) : (k.emit e).drawCount = k.drawCount := rfl
@[simp] theorem Kbd.emit_result (k : Kbd) (e : Option Byte) : (k.emit e).result = .emitted e := rfl

/-! ### Kbd.refuse -/

@[simp] theorem Kbd.refuse_st (k : Kbd) (r : RefusalReason) : (k.refuse r).st = k.st := rfl
@[simp] theorem Kbd.refuse_q (k : Kbd) (r : RefusalReason) : (k.refuse r).q = k.q := rfl
@[simp] theorem Kbd.refuse_flags (k : Kbd) (r : RefusalReason) : (k.refuse r).flags = k.flags := rfl
@[simp] theorem Kbd.refuse_params (k : Kbd) (r : RefusalReason) : (k.refuse r).params = k.params := rfl
@[simp] theorem Kbd.refuse_callbackRegistered (k : Kbd) (r : RefusalReason) :
    (k.refuse r).callbackRegistered = k.callbackRegistered := rfl
@[simp] theorem Kbd.refuse_refused (k : Kbd) (r : RefusalReason) : (k.refuse r).refused = true := rfl
@[simp] theorem Kbd.refuse_history (k : Kbd) (r : RefusalReason) : (k.refuse r).history = k.history := rfl
@[simp] theorem Kbd.refuse_draws (k : Kbd) (r : RefusalReason) : (k.refuse r).draws = k.draws := rfl
@[simp] theorem Kbd.refuse_drawCount (k : Kbd) (r : RefusalReason) : (k.refuse r).drawCount = k.drawCount := rfl
@[simp] theorem Kbd.refuse_result (k : Kbd) (r : RefusalReason) : (k.refuse r).result = .refused r := rfl

/-! ### Kbd.portRead -/

@[simp] theorem Kbd.portRead_st (k : Kbd) (port : Port) : (k.portRead port).2.st = k.st := rfl
@[simp] theorem Kbd.portRead_q (k : Kbd) (port : Port) : (k.portRead port).2.q = k.q := rfl
@[simp] theorem Kbd.portRead_flags (k : Kbd) (port : Port) : (k.portRead port).2.flags = k.flags := rfl
@[simp] theorem Kbd.portRead_params (k : Kbd) (port : Port) : (k.portRead port).2.params = k.params := rfl
@[simp] theorem Kbd.portRead_callbackRegistered (k : Kbd) (port : Port) :
    (k.portRead port).2.callbackRegistered = k.callbackRegistered := rfl
@[simp] theorem Kbd.portRead_refused (k : Kbd) (port : Port) : (k.portRead port).2.refused = k.refused := rfl
@[simp] theorem Kbd.portRead_history (k : Kbd) (port : Port) :
    (k.portRead port).2.history = .read8 port (k.portRead port).1 :: k.history := rfl
@[simp] theorem Kbd.portRead_draws (k : Kbd) (port : Port) : (k.portRead port).2.draws = k.draws.tail := rfl
@[simp] theorem Kbd.portRead_drawCount (k : Kbd) (port : Port) :
    (k.portRead port).2.drawCount = k.drawCount + 1 := rfl
@[simp] theorem Kbd.portRead_result (k : Kbd) (port : Port) : (k.portRead port).2.result = k.result := rfl

/-! ### Kbd.portWrite -/

@[simp] theorem Kbd.portWrite_st (k : Kbd) (port : Port) (v : Byte) : (k.portWrite port v).st = k.st := rfl
@[simp] theorem Kbd.portWrite_q (k : Kbd) (port : Port) (v : Byte) : (k.portWrite port v).q = k.q := rfl
@[simp] theorem Kbd.portWrite_flags (k : Kbd) (port : Port) (v : Byte) : (k.portWrite port v).flags = k.flags := rfl
@[simp] theorem Kbd.portWrite_params (k : Kbd) (port : Port) (v : Byte) :
    (k.portWrite port v).params = k.params := rfl
@[simp] theorem Kbd.portWrite_callbackRegistered (k : Kbd) (port : Port) (v : Byte) :
    (k.portWrite port v).callbackRegistered = k.callbackRegistered := rfl
@[simp] theorem Kbd.portWrite_refused (k : Kbd) (port : Port) (v : Byte) :
    (k.portWrite port v).refused = k.refused := rfl
@[simp] theorem Kbd.portWrite_history (k : Kbd) (port : Port) (v : Byte) :
    (k.portWrite port v).history = .write8 port v :: k.history := rfl
@[simp] theorem Kbd.portWrite_draws (k : Kbd) (port : Port) (v : Byte) : (k.portWrite port v).draws = k.draws := rfl
@[simp] theorem Kbd.portWrite_drawCount (k : Kbd) (port : Port) (v : Byte) :
    (k.portWrite port v).drawCount = k.drawCount := rfl
@[simp] theorem Kbd.portWrite_result (k : Kbd) (port : Port) (v : Byte) :
    (k.portWrite port v).result = k.result := rfl

/-! ### Kbd.modApply -/

@[simp] theorem Kbd.modApply_st (k : Kbd) (c raw : Byte) : (k.modApply c raw).2.st = k.st := rfl
@[simp] theorem Kbd.modApply_q (k : Kbd) (c raw : Byte) : (k.modApply c raw).2.q = k.q := rfl
@[simp] theorem Kbd.modApply_flags (k : Kbd) (c raw : Byte) :
    (k.modApply c raw).2.flags = updateFlags k.params c raw k.flags := rfl
@[simp] theorem Kbd.modApply_params (k : Kbd) (c raw : Byte) : (k.modApply c raw).2.params = k.params := rfl
@[simp] theorem Kbd.modApply_callbackRegistered (k : Kbd) (c raw : Byte) :
    (k.modApply c raw).2.callbackRegistered = k.callbackRegistered := rfl
@[simp] theorem Kbd.modApply_refused (k : Kbd) (c raw : Byte) : (k.modApply c raw).2.refused = k.refused := rfl
@[simp] theorem Kbd.modApply_history (k : Kbd) (c raw : Byte) : (k.modApply c raw).2.history = k.history := rfl
@[simp] theorem Kbd.modApply_draws (k : Kbd) (c raw : Byte) : (k.modApply c raw).2.draws = k.draws := rfl
@[simp] theorem Kbd.modApply_drawCount (k : Kbd) (c raw : Byte) : (k.modApply c raw).2.drawCount = k.drawCount := rfl
@[simp] theorem Kbd.modApply_result (k : Kbd) (c raw : Byte) : (k.modApply c raw).2.result = k.result := rfl

/-! ### Kbd.restart -/

@[simp] theorem Kbd.restart_st (k : Kbd) : k.restart.st = DecoderState.code .start := rfl
@[simp] theorem Kbd.restart_q (k : Kbd) : k.restart.q = Fifo.empty := rfl
@[simp] theorem Kbd.restart_flags (k : Kbd) : k.restart.flags = 0#16 := rfl
@[simp] theorem Kbd.restart_params (k : Kbd) : k.restart.params = k.params := rfl
@[simp] theorem Kbd.restart_callbackRegistered (k : Kbd) : k.restart.callbackRegistered = k.callbackRegistered := rfl
@[simp] theorem Kbd.restart_refused (k : Kbd) : k.restart.refused = k.refused := rfl
@[simp] theorem Kbd.restart_history (k : Kbd) : k.restart.history = k.history := rfl
@[simp] theorem Kbd.restart_draws (k : Kbd) : k.restart.draws = k.draws := rfl
@[simp] theorem Kbd.restart_drawCount (k : Kbd) : k.restart.drawCount = k.drawCount := rfl
@[simp] theorem Kbd.restart_result (k : Kbd) : k.restart.result = .nothing := rfl

/-! ### Pci.setResult -/

@[simp] theorem Pci.setResult_addrLatch (u : Pci) (r : OpResult) : (u.setResult r).addrLatch = u.addrLatch := rfl
@[simp] theorem Pci.setResult_absent (u : Pci) (r : OpResult) : (u.setResult r).absent = u.absent := rfl
@[simp] theorem Pci.setResult_entryBits (u : Pci) (r : OpResult) : (u.setResult r).entryBits = u.entryBits := rfl
@[simp] theorem Pci.setResult_refused (u : Pci) (r : OpResult) : (u.setResult r).refused = u.refused := rfl
@[simp] theorem Pci.setResult_history (u : Pci) (r : OpResult) : (u.setResult r).history = u.history := rfl
@[simp] theorem Pci.setResult_draws (u : Pci) (r : OpResult) : (u.setResult r).draws = u.draws := rfl
@[simp] theorem Pci.setResult_drawCount (u : Pci) (r : OpResult) : (u.setResult r).drawCount = u.drawCount := rfl
@[simp] theorem Pci.setResult_result (u : Pci) (r : OpResult) : (u.setResult r).result = r := rfl

/-! ### Pci.refuse -/

@[simp] theorem Pci.refuse_addrLatch (u : Pci) (r : RefusalReason) : (u.refuse r).addrLatch = u.addrLatch := rfl
@[simp] theorem Pci.refuse_absent (u : Pci) (r : RefusalReason) : (u.refuse r).absent = u.absent := rfl
@[simp] theorem Pci.refuse_entryBits (u : Pci) (r : RefusalReason) : (u.refuse r).entryBits = u.entryBits := rfl
@[simp] theorem Pci.refuse_refused (u : Pci) (r : RefusalReason) : (u.refuse r).refused = true := rfl
@[simp] theorem Pci.refuse_history (u : Pci) (r : RefusalReason) : (u.refuse r).history = u.history := rfl
@[simp] theorem Pci.refuse_draws (u : Pci) (r : RefusalReason) : (u.refuse r).draws = u.draws := rfl
@[simp] theorem Pci.refuse_drawCount (u : Pci) (r : RefusalReason) : (u.refuse r).drawCount = u.drawCount := rfl
@[simp] theorem Pci.refuse_result (u : Pci) (r : RefusalReason) : (u.refuse r).result = .refused r := rfl

/-! ### Pci.writeAddr -/

@[simp] theorem Pci.writeAddr_addrLatch (u : Pci) (a : Dword) : (u.writeAddr a).addrLatch = a := rfl
@[simp] theorem Pci.writeAddr_absent (u : Pci) (a : Dword) : (u.writeAddr a).absent = u.absent := rfl
@[simp] theorem Pci.writeAddr_entryBits (u : Pci) (a : Dword) : (u.writeAddr a).entryBits = u.entryBits := rfl
@[simp] theorem Pci.writeAddr_refused (u : Pci) (a : Dword) : (u.writeAddr a).refused = u.refused := rfl
@[simp] theorem Pci.writeAddr_history (u : Pci) (a : Dword) :
    (u.writeAddr a).history = .write32 Config.pciAddrPort a :: u.history := rfl
@[simp] theorem Pci.writeAddr_draws (u : Pci) (a : Dword) : (u.writeAddr a).draws = u.draws := rfl
@[simp] theorem Pci.writeAddr_drawCount (u : Pci) (a : Dword) : (u.writeAddr a).drawCount = u.drawCount := rfl
@[simp] theorem Pci.writeAddr_result (u : Pci) (a : Dword) : (u.writeAddr a).result = u.result := rfl

/-! ### Pci.writeData -/

@[simp] theorem Pci.writeData_addrLatch (u : Pci) (v : Dword) : (u.writeData v).addrLatch = u.addrLatch := rfl
@[simp] theorem Pci.writeData_absent (u : Pci) (v : Dword) : (u.writeData v).absent = u.absent := rfl
@[simp] theorem Pci.writeData_entryBits (u : Pci) (v : Dword) : (u.writeData v).entryBits = u.entryBits := rfl
@[simp] theorem Pci.writeData_refused (u : Pci) (v : Dword) : (u.writeData v).refused = u.refused := rfl
@[simp] theorem Pci.writeData_history (u : Pci) (v : Dword) :
    (u.writeData v).history = .write32 Config.pciDataPort v :: u.history := rfl
@[simp] theorem Pci.writeData_draws (u : Pci) (v : Dword) : (u.writeData v).draws = u.draws := rfl
@[simp] theorem Pci.writeData_drawCount (u : Pci) (v : Dword) : (u.writeData v).drawCount = u.drawCount := rfl
@[simp] theorem Pci.writeData_result (u : Pci) (v : Dword) : (u.writeData v).result = u.result := rfl

/-! ### Pci.readData -/

@[simp] theorem Pci.readData_addrLatch (u : Pci) : (u.readData).2.addrLatch = u.addrLatch := rfl
@[simp] theorem Pci.readData_absent (u : Pci) : (u.readData).2.absent = u.absent := rfl
@[simp] theorem Pci.readData_entryBits (u : Pci) : (u.readData).2.entryBits = u.entryBits := rfl
@[simp] theorem Pci.readData_refused (u : Pci) : (u.readData).2.refused = u.refused := rfl
@[simp] theorem Pci.readData_history (u : Pci) :
    (u.readData).2.history = .read32 Config.pciDataPort u.readData.1 :: u.history := rfl
@[simp] theorem Pci.readData_draws (u : Pci) : (u.readData).2.draws = u.draws.tail := rfl
@[simp] theorem Pci.readData_drawCount (u : Pci) : (u.readData).2.drawCount = u.drawCount + 1 := rfl
@[simp] theorem Pci.readData_result (u : Pci) : (u.readData).2.result = u.result := rfl

end Sys2Proof.Machine
end

