-- ==== Sys2Proof/Laws/Ops.lean ====
section
/-!
SUPPORT. For each shared operation, one lemma that says once everything it can do; later proofs cite these instead of
unfolding the operation. Then the small facts about the FIFO, the flags, the address word and the extraction.
-/

namespace Sys2Proof.Machine

/-! ### Lift, guard and transitions -/

@[simp] theorem State.onKbd_next_eq (s : State) (k : Kbd) : s.onKbd (.next k) = .next { s with kbd := k } := rfl

@[simp] theorem State.onKbd_fault_eq (s : State) (f : Fault) : s.onKbd (.fault f) = .fault f := rfl

@[simp] theorem State.onKbd_refused_eq (s : State) (r : Refusal) : s.onKbd (.refused r) = .refused r := rfl

theorem State.onKbd_next {s t : State} {o : Out Kbd} (h : s.onKbd o = .next t) :
    ∃ k, o = .next k ∧ t = { s with kbd := k } := by
  cases o with
  | next k => exact ⟨k, rfl, by simpa using h.symm⟩
  | fault f => simp at h
  | refused r => simp at h

theorem Kbd.inState_eq {k : Kbd} {d : DecoderState} (h : k.st = d.code) (o : Out Kbd) : k.inState d o = o := by
  simp [Kbd.inState, h]

theorem Kbd.inState_next {k k' : Kbd} {d : DecoderState} {o : Out Kbd} (h : k.inState d o = .next k') :
    k.st = d.code ∧ o = .next k' := by
  unfold Kbd.inState at h
  split at h
  · exact ⟨‹_›, h⟩
  · cases h

theorem Kbd.move_eq {k : Kbd} {d d' : DecoderState} {e : Option Byte} (h : k.st = d.code) :
    k.move d d' e = .next ((k.setSt d').emit e) := Kbd.inState_eq h _

theorem Kbd.move_next {k k' : Kbd} {d d' : DecoderState} {e : Option Byte} (h : k.move d d' e = .next k') :
    k.st = d.code ∧ k' = (k.setSt d').emit e := by
  obtain ⟨h1, h2⟩ := Kbd.inState_next h
  exact ⟨h1, by simpa using h2.symm⟩

theorem Kbd.enterError_next {k k' : Kbd} {d : DecoderState} (h : k.enterError d = .next k') :
    k.st = d.code ∧ k' = (k.setSt .error).emit none := Kbd.move_next h

theorem Kbd.leaveError_next {k k' : Kbd} (h : k.leaveError = .next k') :
    k.st = DecoderState.code .error ∧ k' = (k.setSt .start).emit none := Kbd.move_next h

/-! ### Codes of the states -/

@[simp] theorem DecoderState.ofCode_code (d : DecoderState) : DecoderState.ofCode d.code = some d := by
  cases d <;> rfl

theorem DecoderState.code_of_ofCode {c : StateCode} {d : DecoderState} (h : DecoderState.ofCode c = some d) :
    c = d.code := by
  revert h; revert d c; decide

theorem DecoderState.code_injective {d d' : DecoderState} (h : d.code = d'.code) : d = d' := by
  have := congrArg DecoderState.ofCode h
  simpa using this

theorem DecoderState.ofCode_eq_none_iff (c : StateCode) : DecoderState.ofCode c = none ↔ 0xB ≤ c.toNat := by
  revert c; decide

/-! ### The FIFO -/

theorem Kbd.transmit_eq (k : Kbd) (cmd : ControllerCommand) :
    k.transmit cmd =
      { k with history := ((dispatchBytes k.params cmd).map (Event.write8 Config.kbdDataPort)).reverse ++ k.history } := by
  unfold Kbd.transmit
  generalize dispatchBytes k.params cmd = bs
  induction bs generalizing k with
  | nil => rfl
  | cons b bs ih =>
    rw [List.foldl_cons, ih]
    simp [Kbd.portWrite, Kbd.record]

theorem Fifo.head_eq_ok {q : Fifo} {cmd : ControllerCommand} :
    q.head = .ok cmd ↔ q.len ≠ 0#5 ∧ q.buf[q.slot 0] = some cmd := by
  unfold Fifo.head
  split
  · simp_all
  · split <;> simp_all

theorem Kbd.transmitHead_next {k k' : Kbd} (h : k.transmitHead = .next k') :
    ∃ cmd, k.q.len ≠ 0#5 ∧ k.q.buf[k.q.slot 0] = some cmd ∧ k' = k.transmit cmd := by
  unfold Kbd.transmitHead at h
  split at h
  · rename_i cmd hc
    obtain ⟨h1, h2⟩ := Fifo.head_eq_ok.1 hc
    exact ⟨cmd, h1, h2, by simpa using h.symm⟩
  · cases h

theorem Kbd.transmitHead_eq {k : Kbd} {cmd : ControllerCommand} (h : k.q.len ≠ 0#5)
    (h' : k.q.buf[k.q.slot 0] = some cmd) : k.transmitHead = .next (k.transmit cmd) := by
  simp [Kbd.transmitHead, Fifo.head_eq_ok.2 ⟨h, h'⟩]

theorem Kbd.dequeue_next {k k' : Kbd} (h : k.dequeue = .next k') : k.q.len ≠ 0#5 ∧ k' = { k with q := k.q.pop } := by
  unfold Kbd.dequeue at h
  split at h
  · cases h
  · exact ⟨‹_›, by simpa using h.symm⟩

theorem Kbd.dequeue_eq {k : Kbd} (h : k.q.len ≠ 0#5) : k.dequeue = .next { k with q := k.q.pop } := by
  exact if_neg h

@[simp] theorem Fifo.push_start (q : Fifo) (c : ControllerCommand) : (q.push c).start = q.start := rfl
@[simp] theorem Fifo.push_len (q : Fifo) (c : ControllerCommand) : (q.push c).len = q.len + 1#5 := rfl
@[simp] theorem Fifo.pop_start (q : Fifo) : q.pop.start = q.start + 1#4 := rfl
@[simp] theorem Fifo.pop_len (q : Fifo) : q.pop.len = q.len - 1#5 := rfl
@[simp] theorem Fifo.pop_buf (q : Fifo) : q.pop.buf = q.buf := rfl
@[simp] theorem Fifo.slot_val (q : Fifo) (i : Nat) : (q.slot i).val = (q.start.toNat + i) % 16 := rfl

/-- A push writes its own slot and leaves the others (R230). -/
theorem Fifo.push_getElem (q : Fifo) (c : ControllerCommand) (j : Fin 16) :
    (q.push c).buf[j] = if q.slot q.len.toNat = j then some c else q.buf[j] := by
  simp only [Fifo.push, Fin.getElem_fin, Vector.getElem_set, Fin.ext_iff]

/-! ### Dispatch -/

theorem Kbd.tryDispatch_next {k k' : Kbd} (h : k.tryDispatch = .next k') :
    (DecoderState.ofCode k.st = none ∧ k' = k.refuse .badStateCode) ∨
    (∃ cmd, k.st = DecoderState.code .start ∧ k.q.len ≠ 0#5 ∧ k.q.buf[k.q.slot 0] = some cmd ∧
      k' = ((k.transmit cmd).setSt .awaitingControllerResponse).setResult .nothing) ∨
    ((DecoderState.ofCode k.st).isSome ∧ ¬(k.st = DecoderState.code .start ∧ k.q.len ≠ 0#5) ∧
      k' = k.setResult .nothing) := by
  unfold Kbd.tryDispatch at h
  split at h
  · exact .inl ⟨‹_›, by simpa using h.symm⟩
  · split at h
    · rename_i hg
      split at h
      · rename_i k1 h1
        obtain ⟨cmd, h2, h3, rfl⟩ := Kbd.transmitHead_next h1
        exact .inr (.inl ⟨cmd, hg.1, h2, h3, by simpa using h.symm⟩)
      · cases h
      · cases h
    · exact .inr (.inr ⟨by simpa [Option.isSome_iff_ne_none] using ‹¬DecoderState.ofCode k.st = none›, ‹_›,
        by simpa using h.symm⟩)

/-! ### PCI -/

/-- One configuration read, all of it: the address write, then the data read (R261). -/
theorem Pci.configRead_snd (u : Pci) (bus : BitVec 8) (dev : BitVec 5) (fn : BitVec 3) (off : Byte) (w : Width) :
    (u.configRead bus dev fn off w).2 =
      { u with
        addrLatch := addrEnc bus dev fn off, draws := u.draws.tail, drawCount := u.drawCount + 1,
        history := .read32 Config.pciDataPort (u.writeAddr (addrEnc bus dev fn off)).readData.1 ::
          .write32 Config.pciAddrPort (addrEnc bus dev fn off) :: u.history } := rfl

theorem Pci.configRead_fst (u : Pci) (bus : BitVec 8) (dev : BitVec 5) (fn : BitVec 3) (off : Byte) (w : Width) :
    (u.configRead bus dev fn off w).1 = extract (u.writeAddr (addrEnc bus dev fn off)).readData.1 off w := rfl

theorem Pci.probe_snd (u : Pci) (bus : BitVec 8) (dev : BitVec 5) (fn : BitVec 3) :
    (u.probe bus dev fn).2 = (u.configRead bus dev fn 0x00#8 .w16).2 := rfl

/-- The address word's fields side by side (R110): the shifts and ORs of R111 overlap nowhere. -/
theorem addrEnc_eq_append (bus : BitVec 8) (dev : BitVec 5) (fn : BitVec 3) (off : Byte) :
    addrEnc bus dev fn off =
      (0x80#8 ++ bus ++ dev ++ fn ++ off.extractLsb' 2 6 ++ 0#2 : BitVec 32) := by
  apply BitVec.eq_of_getLsbD_eq
  intro i hi
  unfold addrEnc
  simp only [BitVec.getLsbD_append]
  interval_cases i <;> simp

theorem pack_eq_append (bus : BitVec 8) (dev : BitVec 5) (fn : BitVec 3) :
    pack bus dev fn = (bus ++ dev ++ fn : BitVec 16) := by
  apply BitVec.eq_of_getLsbD_eq
  intro i hi
  unfold pack
  simp only [BitVec.getLsbD_append]
  interval_cases i <;> simp

/-- The address word selects the function its operands name (R110, R113). -/
theorem addrFunction_addrEnc (bus : BitVec 8) (dev : BitVec 5) (fn : BitVec 3) (off : Byte) :
    addrFunction (addrEnc bus dev fn off) = pack bus dev fn := by
  apply BitVec.eq_of_getLsbD_eq
  intro i hi
  unfold addrFunction addrEnc pack
  interval_cases i <;> simp

theorem addrRegister_addrEnc (bus : BitVec 8) (dev : BitVec 5) (fn : BitVec 3) (off : Byte) :
    addrRegister (addrEnc bus dev fn off) = off.extractLsb' 2 6 := by
  apply BitVec.eq_of_getLsbD_eq
  intro i hi
  unfold addrRegister addrEnc
  interval_cases i <;> simp

/-! ### Flags -/

theorem setFlag_getLsbD (f : BitVec 16) (i j : Nat) (v : Bool) (hi : i < 16) :
    (setFlag f i v).getLsbD j = if j = i then v else f.getLsbD j := by
  by_cases hj : j < 16
  · interval_cases i <;> interval_cases j <;> cases v <;> simp [setFlag]
  · have : j ≠ i := by omega
    simp [this, BitVec.getLsbD_of_ge _ _ (Nat.le_of_not_lt hj)]

/-! ### The scan -/

/-- What finding a function does to a scan (R292). -/
theorem Scan.record_cases (c : Scan) (max : Nat) (e : BitVec 16) :
    (c.count = max ∧ c.record max e = { c with stopped := true }) ∨
    (c.count ≠ max ∧ c.record max e = { c with count := c.count + 1, found := e :: c.found }) := by
  unfold Scan.record
  split
  · exact .inl ⟨‹_›, rfl⟩
  · exact .inr ⟨‹_›, rfl⟩

/-! ### The caller's calls -/

/-- Everything the machine can do with its next call. -/
theorem State.fetch_cases (s : State) :
    (s.requests = [] ∧ s.fetch = .idle) ∨
    (∃ r rest u e, s.requests = r :: rest ∧
      s.fetch = .turnedAway ({ s with requests := rest }.refuseUnits u e)) ∨
    (∃ r rest i, s.requests = r :: rest ∧ r.overlapped = false ∧ r.call.instr = .ok i ∧
      s.fetch = .run i { s with requests := rest }) := by
  unfold State.fetch
  split
  · exact .inl ⟨‹_›, rfl⟩
  · rename_i r rest hr
    refine .inr ?_
    cases ho : r.overlapped with
    | true => exact .inl ⟨r, rest, _, _, hr, by simp; rfl⟩
    | false =>
      cases hc : r.call.instr with
      | ok i => exact .inr ⟨r, rest, i, hr, ho, hc, by simp⟩
      | error e => exact .inl ⟨r, rest, _, _, hr, by simp; rfl⟩

end Sys2Proof.Machine
end

