-- ==== Sys2Proof/Laws/PerInstr.lean ====
section
/-!
SUPPORT. Per-instruction facts: the code of every constructor matches its row of spec/opcode_table.json. The rows are
written out from the table's own match and mask columns.
-/

namespace Sys2Proof.Laws.TableRow

/-- A row's match and mask over the decode key, or over the request word. -/
inductive Row where
  | fsm (matchBits mask : Key)
  | op (matchBits mask : RequestWord)
  deriving DecidableEq, Repr

/-- A code has a row's bits. -/
def Row.covers : Row → Code → Bool
  | .fsm m k, .key c => c &&& k == m
  | .op m k, .request w => w &&& k == m
  | .fsm _ _, .request _ => false
  | .op _ _, .key _ => false

/-- The row of each constructor, as the table gives it; three rows depend on the parameters (R107), and the unused
codes have one row each (R106). -/
def rowOf (p : KbdParams) : Instr → Row
  | .feedStartE0 => .fsm 0x0E0 0xFFF
  | .feedStartE1 => .fsm 0x0E1 0xFFF
  | .feedStartKey _ => .fsm 0x000 0xF00
  | .feedExt2A => .fsm 0x12A 0xFFF
  | .feedExtB7 => .fsm 0x1B7 0xFFF
  | .feedExtError b => .fsm (0x100 ||| b.setWidth 12) 0xFFF
  | .feedExtKey _ => .fsm 0x100 0xF00
  | .feedPauseSeq1On1D => .fsm 0x21D 0xFFF
  | .feedPauseSeq1On9D => .fsm 0x29D 0xFFF
  | .feedPauseSeq1Other _ => .fsm 0x200 0xF00
  | .feedPausePressWaitOn45 => .fsm 0x345 0xFFF
  | .feedPausePressWaitOther _ => .fsm 0x300 0xF00
  | .feedPauseReleaseWaitOnC5 => .fsm 0x4C5 0xFFF
  | .feedPauseReleaseWaitOther _ => .fsm 0x400 0xF00
  | .feedPrtScPressWait1OnE0 => .fsm 0x5E0 0xFFF
  | .feedPrtScPressWait1Other _ => .fsm 0x500 0xF00
  | .feedPrtScPressWait2On37 => .fsm 0x637 0xFFF
  | .feedPrtScPressWait2Other _ => .fsm 0x600 0xF00
  | .feedPrtScReleaseWait1OnE0 => .fsm 0x7E0 0xFFF
  | .feedPrtScReleaseWait1Other _ => .fsm 0x700 0xF00
  | .feedPrtScReleaseWait2OnAA => .fsm 0x8AA 0xFFF
  | .feedPrtScReleaseWait2Other _ => .fsm 0x800 0xF00
  | .feedAwaitingAck => .fsm (0x900 ||| p.ackByte.setWidth 12) 0xFFF
  | .feedAwaitingResend => .fsm (0x900 ||| p.resendByte.setWidth 12) 0xFFF
  | .feedAwaitingOther _ => .fsm 0x900 0xF00
  | .feedErrorAny _ => .fsm 0xA00 0xF00
  | .feedUnusedState code _ => .fsm (code.setWidth 12 <<< 8) 0xF00
  | .reset => .op 0x0000000000000000 0xF000000000000000
  | .feed _ => .op 0x1000000000000000 0xF000000000000000
  | .enqueue _ _ => .op 0x2000000000000000 0xF000000000000000
  | .tryDispatch => .op 0x3000000000000000 0xF000000000000000
  | .pciRead _ _ _ _ _ => .op 0x4000000000000000 0xF000000000000000
  | .pciReadReservedWidth => .op 0x4003000000000000 0xF003000000000000
  | .pciWrite32 _ _ _ _ _ => .op 0x5000000000000000 0xF000000000000000
  | .deviceExists _ _ _ => .op 0x6000000000000000 0xF000000000000000
  | .enumerate _ => .op 0x7000000000000000 0xF000000000000000
  | .modApply _ _ => .op 0x8000000000000000 0xF000000000000000
  | .poll => .op 0x9000000000000000 0xF000000000000000
  | .reservedA => .op 0xA000000000000000 0xF000000000000000
  | .reservedB => .op 0xB000000000000000 0xF000000000000000
  | .reservedC => .op 0xC000000000000000 0xF000000000000000
  | .reservedD => .op 0xD000000000000000 0xF000000000000000
  | .reservedE => .op 0xE000000000000000 0xF000000000000000
  | .reservedF => .op 0xF000000000000000 0xF000000000000000

/-- The code of the instruction has its row's bits. -/
def Statement (i : Instr) : Prop := ∀ p : KbdParams, (rowOf p i).covers (encode p i) = true

/-- A key of a state lies in the state's "any other byte" row. -/
theorem key_of_state (c : StateCode) (b : Byte) : fsmKey c b &&& 0xF00 = c.setWidth 12 <<< 8 := by
  apply BitVec.eq_of_getLsbD_eq
  intro i hi
  unfold fsmKey
  simp only [BitVec.getLsbD_append, BitVec.getLsbD_and]
  interval_cases i <;> simp

/-- An exact key is its own row. -/
theorem key_exact (c : StateCode) (b : Byte) : fsmKey c b &&& 0xFFF = fsmKey c b := by
  have : (0xFFF : BitVec 12) = BitVec.allOnes 12 := by decide
  rw [this, BitVec.and_allOnes]

/-- The top four bits of a request word are its operation code. -/
theorem op_of_code (c : BitVec 4) (x : BitVec 60) :
    (c ++ x : BitVec 64) &&& 0xF000000000000000 = c.setWidth 64 <<< 60 := by
  apply BitVec.eq_of_getLsbD_eq
  intro i hi
  simp only [BitVec.getLsbD_append, BitVec.getLsbD_and]
  interval_cases i <;> simp

/-- An exact key of parameter rows, as the table writes it: the state's code above the byte. -/
theorem key_eq_or (c : StateCode) (b : Byte) : fsmKey c b = (c.setWidth 12 <<< 8) ||| b.setWidth 12 := by
  apply BitVec.eq_of_getLsbD_eq
  intro i hi
  unfold fsmKey
  simp only [BitVec.getLsbD_append]
  interval_cases i <;> simp

theorem feedStartE0 : Statement (.feedStartE0) := by
  intro p; rfl

theorem feedStartE1 : Statement (.feedStartE1) := by
  intro p; rfl

theorem feedStartKey : ∀ x0, Statement (.feedStartKey x0) := by
  intro x0 p
  exact beq_iff_eq.2 ((key_of_state _ _).trans (by decide))

theorem feedExt2A : Statement (.feedExt2A) := by
  intro p; rfl

theorem feedExtB7 : Statement (.feedExtB7) := by
  intro p; rfl

theorem feedExtError : ∀ x0, Statement (.feedExtError x0) := by
  intro x0 p
  simp only [rowOf, encode, encodeKey, Row.covers, key_exact, beq_iff_eq]
  exact key_eq_or _ _

theorem feedExtKey : ∀ x0, Statement (.feedExtKey x0) := by
  intro x0 p
  exact beq_iff_eq.2 ((key_of_state _ _).trans (by decide))

theorem feedPauseSeq1On1D : Statement (.feedPauseSeq1On1D) := by
  intro p; rfl

theorem feedPauseSeq1On9D : Statement (.feedPauseSeq1On9D) := by
  intro p; rfl

theorem feedPauseSeq1Other : ∀ x0, Statement (.feedPauseSeq1Other x0) := by
  intro x0 p
  exact beq_iff_eq.2 ((key_of_state _ _).trans (by decide))

theorem feedPausePressWaitOn45 : Statement (.feedPausePressWaitOn45) := by
  intro p; rfl

theorem feedPausePressWaitOther : ∀ x0, Statement (.feedPausePressWaitOther x0) := by
  intro x0 p
  exact beq_iff_eq.2 ((key_of_state _ _).trans (by decide))

theorem feedPauseReleaseWaitOnC5 : Statement (.feedPauseReleaseWaitOnC5) := by
  intro p; rfl

theorem feedPauseReleaseWaitOther : ∀ x0, Statement (.feedPauseReleaseWaitOther x0) := by
  intro x0 p
  exact beq_iff_eq.2 ((key_of_state _ _).trans (by decide))

theorem feedPrtScPressWait1OnE0 : Statement (.feedPrtScPressWait1OnE0) := by
  intro p; rfl

theorem feedPrtScPressWait1Other : ∀ x0, Statement (.feedPrtScPressWait1Other x0) := by
  intro x0 p
  exact beq_iff_eq.2 ((key_of_state _ _).trans (by decide))

theorem feedPrtScPressWait2On37 : Statement (.feedPrtScPressWait2On37) := by
  intro p; rfl

theorem feedPrtScPressWait2Other : ∀ x0, Statement (.feedPrtScPressWait2Other x0) := by
  intro x0 p
  exact beq_iff_eq.2 ((key_of_state _ _).trans (by decide))

theorem feedPrtScReleaseWait1OnE0 : Statement (.feedPrtScReleaseWait1OnE0) := by
  intro p; rfl

theorem feedPrtScReleaseWait1Other : ∀ x0, Statement (.feedPrtScReleaseWait1Other x0) := by
  intro x0 p
  exact beq_iff_eq.2 ((key_of_state _ _).trans (by decide))

theorem feedPrtScReleaseWait2OnAA : Statement (.feedPrtScReleaseWait2OnAA) := by
  intro p; rfl

theorem feedPrtScReleaseWait2Other : ∀ x0, Statement (.feedPrtScReleaseWait2Other x0) := by
  intro x0 p
  exact beq_iff_eq.2 ((key_of_state _ _).trans (by decide))

theorem feedAwaitingAck : Statement (.feedAwaitingAck) := by
  intro p
  simp only [rowOf, encode, encodeKey, Row.covers, key_exact, beq_iff_eq]
  exact key_eq_or _ _

theorem feedAwaitingResend : Statement (.feedAwaitingResend) := by
  intro p
  simp only [rowOf, encode, encodeKey, Row.covers, key_exact, beq_iff_eq]
  exact key_eq_or _ _

theorem feedAwaitingOther : ∀ x0, Statement (.feedAwaitingOther x0) := by
  intro x0 p
  exact beq_iff_eq.2 ((key_of_state _ _).trans (by decide))

theorem feedErrorAny : ∀ x0, Statement (.feedErrorAny x0) := by
  intro x0 p
  exact beq_iff_eq.2 ((key_of_state _ _).trans (by decide))

theorem feedUnusedState : ∀ x0 x1, Statement (.feedUnusedState x0 x1) := by
  intro x0 x1 p
  exact beq_iff_eq.2 ((key_of_state _ _))

theorem reset : Statement (.reset) := by
  intro p; rfl

theorem feed : ∀ x0, Statement (.feed x0) := by
  intro x0 p
  exact beq_iff_eq.2 ((op_of_code _ _).trans (by decide))

theorem enqueue : ∀ x0 x1, Statement (.enqueue x0 x1) := by
  intro x0 x1 p
  exact beq_iff_eq.2 ((op_of_code _ _).trans (by decide))

theorem tryDispatch : Statement (.tryDispatch) := by
  intro p; rfl

theorem pciRead : ∀ x0 x1 x2 x3 x4, Statement (.pciRead x0 x1 x2 x3 x4) := by
  intro x0 x1 x2 x3 x4 p
  exact beq_iff_eq.2 ((op_of_code _ _).trans (by decide))

theorem pciReadReservedWidth : Statement (.pciReadReservedWidth) := by
  intro p; rfl

theorem pciWrite32 : ∀ x0 x1 x2 x3 x4, Statement (.pciWrite32 x0 x1 x2 x3 x4) := by
  intro x0 x1 x2 x3 x4 p
  exact beq_iff_eq.2 ((op_of_code _ _).trans (by decide))

theorem deviceExists : ∀ x0 x1 x2, Statement (.deviceExists x0 x1 x2) := by
  intro x0 x1 x2 p
  exact beq_iff_eq.2 ((op_of_code _ _).trans (by decide))

theorem enumerate : ∀ x0, Statement (.enumerate x0) := by
  intro x0 p
  exact beq_iff_eq.2 ((op_of_code _ _).trans (by decide))

theorem modApply : ∀ x0 x1, Statement (.modApply x0 x1) := by
  intro x0 x1 p
  exact beq_iff_eq.2 ((op_of_code _ _).trans (by decide))

theorem poll : Statement (.poll) := by
  intro p; rfl

theorem reservedA : Statement (.reservedA) := by
  intro p; rfl

theorem reservedB : Statement (.reservedB) := by
  intro p; rfl

theorem reservedC : Statement (.reservedC) := by
  intro p; rfl

theorem reservedD : Statement (.reservedD) := by
  intro p; rfl

theorem reservedE : Statement (.reservedE) := by
  intro p; rfl

theorem reservedF : Statement (.reservedF) := by
  intro p; rfl

end Sys2Proof.Laws.TableRow
end

