-- ==== Sys2Proof/Tests/Slice0.lean ====
section
/-!
SUPPORT. Tests, by named theorems: ill-formed terms that WellFormed refuses, words written out from the spec's encoding
tables, single steps whose results are those of spec/95_test_vectors.md (the vector's id stands beside each), and for
every statement with hypotheses a witness that meets them.
-/

namespace Sys2Proof.Tests

open Sys2Proof Sys2Proof.Machine

/-! ### Small states -/

/-- The premises of the vectors: B[0x1E] = 'a', B[0x02] = '1', B[0x3A] = LOCK_CODE_CAPS, B[0x2A] = MOD_CODE_LSHIFT,
S[0x02] = '!', SHIFT_TABLE_LEN = 0x3A, EXT_ERROR_SET = {0x99}; some other table entries differ from each other. -/
def params : KbdParams where
  baseTable := (((((((((Vector.replicate 208 0x00#8).set 0x1E 0x61#8).set 0x02 0x31#8).set 0x3A 0x86#8).set 0x2A 0x80#8).set
    0x7A 0x11#8).set 0x7F 0x12#8).set 0xCF 0x13#8).set 0x98 0x14#8).set 0x50 0x15#8
  shiftTableLen := 0x3A
  shiftTable := ((Vector.replicate 128 0x00#8).set 0x02 0x21#8).set 0x39 0x22#8
  extErrorSet := [0x99#8]
  pausePressCode := 0x90#8
  pauseReleaseCode := 0x91#8
  prtScPressCode := 0x92#8
  prtScReleaseCode := 0x93#8
  ackByte := 0xFA#8
  resendByte := 0xFE#8
  dispatchExceptions := [(⟨0xF4#8, 0x00#8⟩, [0xF4#8])]
  modLShift := 0x80#8
  modRShift := 0x81#8
  modLCtrl := 0x82#8
  modRCtrl := 0x83#8
  modLAlt := 0x84#8
  modRAlt := 0x85#8
  lockCaps := 0x86#8
  lockNum := 0x87#8
  lockScroll := 0x88#8

/-- The state after reset, with these parameters and a known address latch. -/
def start : State :=
  { kbd := { Kbd.reset with params := params }, pci := { Pci.reset with addrLatch := 0#32 }, requests := [] }

/-- `start` in another state code. -/
def inCode (c : StateCode) : State := { start with kbd := { start.kbd with st := c } }

/-- A FIFO of `len` commands from slot `first`; slot j holds j/j. -/
def fifo (first : BitVec 4) (len : BitVec 5) : Fifo where
  buf := Vector.ofFn fun j => some ⟨BitVec.ofNat 8 j.val, BitVec.ofNat 8 j.val⟩
  start := first
  len := len

/-- State code `c` with that FIFO. -/
def queued (c : StateCode) (first : BitVec 4) (len : BitVec 5) : State :=
  { inCode c with kbd := { (inCode c).kbd with q := fifo first len } }

/-- State code `c` with these answers to the keyboard port reads. -/
def polled (c : StateCode) (draws : List Byte) : State :=
  { queued c 0#4 1#5 with kbd := { (queued c 0#4 1#5).kbd with draws := draws } }

/-- `start` with these KeyFlags. -/
def flagged (f : BitVec 16) : State := { start with kbd := { start.kbd with flags := f } }

/-- `start` with these answers to the PCI data reads. -/
def drawn (draws : List Dword) : State := { start with pci := { start.pci with draws := draws } }

/-- `start` without the listed functions. -/
def lacking (fs : List (BitVec 16)) : State := { start with pci := { start.pci with absent := fs } }

/-- `start` with a list of calls. -/
def calling (rs : List Request) : State := { start with requests := rs }

/-- Does an operation answer a next state that passes a check? -/
def gives (o : Out State) (check : State → Bool) : Bool :=
  match o with
  | .next t => check t
  | .fault _ => false
  | .refused _ => false

/-- The check of a decoder vector: state code and output after. -/
def codeOut (c : StateCode) (e : Option Byte) (t : State) : Bool := t.kbd.st == c && t.kbd.result == .emitted e

/-! ### WellFormed refuses an ill-formed term for each check -/

theorem test_wellFormed_start_key : (Instr.feedStartKey 0xE0#8).wellFormed params = false ∧
    (Instr.feedStartKey 0xE1#8).wellFormed params = false := by decide

theorem test_wellFormed_extended : (Instr.feedExtError 0x2A#8).wellFormed params = false ∧
    (Instr.feedExtError 0x98#8).wellFormed params = false ∧ (Instr.feedExtKey 0xB7#8).wellFormed params = false ∧
    (Instr.feedExtKey 0x99#8).wellFormed params = false := by decide

theorem test_wellFormed_pause : (Instr.feedPauseSeq1Other 0x9D#8).wellFormed params = false ∧
    (Instr.feedPauseSeq1Other 0x1D#8).wellFormed params = false ∧
    (Instr.feedPausePressWaitOther 0x45#8).wellFormed params = false ∧
    (Instr.feedPauseReleaseWaitOther 0xC5#8).wellFormed params = false := by decide

theorem test_wellFormed_printScreen : (Instr.feedPrtScPressWait1Other 0xE0#8).wellFormed params = false ∧
    (Instr.feedPrtScPressWait2Other 0x37#8).wellFormed params = false ∧
    (Instr.feedPrtScReleaseWait1Other 0xE0#8).wellFormed params = false ∧
    (Instr.feedPrtScReleaseWait2Other 0xAA#8).wellFormed params = false := by decide

theorem test_wellFormed_awaiting : (Instr.feedAwaitingOther 0xFA#8).wellFormed params = false ∧
    (Instr.feedAwaitingOther 0xFE#8).wellFormed params = false ∧
    Instr.feedAwaitingResend.wellFormed { params with resendByte := 0xFA#8 } = false := by decide

theorem test_wellFormed_unused : (Instr.feedUnusedState 0xA#4 0x00#8).wellFormed params = false ∧
    (Instr.feedUnusedState 0xB#4 0x00#8).wellFormed params = true := by decide

theorem test_params_wf : params.wf = true := by decide

theorem test_params_wf_refuses : { params with resendByte := 0xFA#8 }.wf = false ∧
    { params with lockNum := 0x80#8 }.wf = false ∧ { params with extErrorSet := [0xB7#8] }.wf = false ∧
    { params with dispatchExceptions := [(⟨0#8, 0#8⟩, [])] }.wf = false := by decide

theorem test_params_tableRanges_refuses : params.tableRanges = true ∧
    { params with baseTable := params.baseTable.set 0 0x7F#8 }.tableRanges = false := by decide

/-! ### Words written out from the spec decode to their instruction (R107, R117, R118) -/

theorem test_decode_start : decode params (.key 0x0E0#12) = .feedStartE0 ∧ decode params (.key 0x0E1#12) = .feedStartE1 ∧
    decode params (.key 0x01E#12) = .feedStartKey 0x1E#8 := by decide

theorem test_decode_extendedPrefix : decode params (.key 0x12A#12) = .feedExt2A ∧
    decode params (.key 0x1B7#12) = .feedExtB7 ∧ decode params (.key 0x199#12) = .feedExtError 0x99#8 ∧
    decode params (.key 0x119#12) = .feedExtKey 0x19#8 := by decide

theorem test_decode_pause : decode params (.key 0x21D#12) = .feedPauseSeq1On1D ∧
    decode params (.key 0x29D#12) = .feedPauseSeq1On9D ∧ decode params (.key 0x2E1#12) = .feedPauseSeq1Other 0xE1#8 ∧
    decode params (.key 0x345#12) = .feedPausePressWaitOn45 ∧
    decode params (.key 0x3C5#12) = .feedPausePressWaitOther 0xC5#8 ∧
    decode params (.key 0x4C5#12) = .feedPauseReleaseWaitOnC5 ∧
    decode params (.key 0x445#12) = .feedPauseReleaseWaitOther 0x45#8 := by decide

theorem test_decode_printScreen : decode params (.key 0x5E0#12) = .feedPrtScPressWait1OnE0 ∧
    decode params (.key 0x537#12) = .feedPrtScPressWait1Other 0x37#8 ∧
    decode params (.key 0x637#12) = .feedPrtScPressWait2On37 ∧
    decode params (.key 0x648#12) = .feedPrtScPressWait2Other 0x48#8 ∧
    decode params (.key 0x7E0#12) = .feedPrtScReleaseWait1OnE0 ∧
    decode params (.key 0x7AA#12) = .feedPrtScReleaseWait1Other 0xAA#8 ∧
    decode params (.key 0x8AA#12) = .feedPrtScReleaseWait2OnAA ∧
    decode params (.key 0x837#12) = .feedPrtScReleaseWait2Other 0x37#8 := by decide

theorem test_decode_awaiting : decode params (.key 0x9FA#12) = .feedAwaitingAck ∧
    decode params (.key 0x9FE#12) = .feedAwaitingResend ∧
    decode params (.key 0x91E#12) = .feedAwaitingOther 0x1E#8 := by decide

theorem test_decode_error_and_unused : decode params (.key 0xAE0#12) = .feedErrorAny 0xE0#8 ∧
    decode params (.key 0xB00#12) = .feedUnusedState 0xB#4 0x00#8 ∧
    decode params (.key 0xFFF#12) = .feedUnusedState 0xF#4 0xFF#8 := by decide

theorem test_decode_keyboard_requests : decodeRequest 0x0000000000000000#64 = .reset ∧
    decodeRequest 0x10000000000000E0#64 = .feed 0xE0#8 ∧ decodeRequest 0x200000000000F002#64 = .enqueue 0xF0#8 0x02#8 ∧
    decodeRequest 0x3000000000000000#64 = .tryDispatch ∧ decodeRequest 0x8000000000003102#64 = .modApply 0x31#8 0x02#8 ∧
    decodeRequest 0x9000000000000000#64 = .poll := by decide

theorem test_decode_pci_requests : decodeRequest 0x4002000000011310#64 = .pciRead .w32 0x01#8 2#5 3#3 0x10#8 ∧
    decodeRequest 0x400100000000FB00#64 = .pciRead .w16 0x00#8 0x1F#5 3#3 0x00#8 ∧
    decodeRequest 0x400000000000180E#64 = .pciRead .w8 0x00#8 3#5 0#3 0x0E#8 ∧
    decodeRequest 0x4003000000000000#64 = .pciReadReservedWidth ∧
    decodeRequest 0x50FEBF0000001912#64 = .pciWrite32 0x00#8 3#5 1#3 0x12#8 0xFEBF0000#32 ∧
    decodeRequest 0x6000000000001900#64 = .deviceExists 0x00#8 3#5 1#3 ∧
    decodeRequest 0x7000000000000002#64 = .enumerate 2#32 := by decide

theorem test_decode_reserved_codes : decodeRequest 0xA000000000000000#64 = .reservedA ∧
    decodeRequest 0xB000000000000000#64 = .reservedB ∧ decodeRequest 0xC000000000000000#64 = .reservedC ∧
    decodeRequest 0xD000000000000000#64 = .reservedD ∧ decodeRequest 0xE000000000000000#64 = .reservedE ∧
    decodeRequest 0xF000000000000000#64 = .reservedF := by decide

/-- Bits R117 does not list for an operation are ignored. -/
theorem test_decode_ignores_unlisted_bits : decodeRequest 0x1FFFFFFFFFFFFF1E#64 = .feed 0x1E#8 := by decide

theorem test_decode_rejects_other_lengths : decodeTableWord 0 0 = none ∧ decodeTableWord 72 0 = none := ⟨rfl, rfl⟩

theorem test_encode_pciRead : encode params (.pciRead .w32 0x01#8 2#5 3#3 0x10#8) = .request 0x4002000000011310#64 := by
  decide

/-! ### Single steps: the scancode decoder (vectors L2-A, L1-3) -/

theorem test_start_prefixes : gives (exec .feedStartE0 start) (codeOut 0x1#4 none) = true ∧
    gives (exec .feedStartE1 start) (codeOut 0x2#4 none) = true := by decide

/-- VA2, VA5: a break code gives the same entry as its make code. -/
theorem test_start_key : gives (exec (.feedStartKey 0x9E#8) start) (codeOut 0x0#4 (some 0x61#8)) = true ∧
    gives (exec (.feedStartKey 0xFF#8) start) (codeOut 0x0#4 (some 0x12#8)) = true := by decide

/-- VA17, VA18, L1-3. -/
theorem test_extended_rows : gives (exec .feedExt2A (inCode 0x1#4)) (codeOut 0x5#4 none) = true ∧
    gives (exec .feedExtB7 (inCode 0x1#4)) (codeOut 0x7#4 none) = true ∧
    gives (exec (.feedExtError 0x99#8) (inCode 0x1#4)) (codeOut 0xA#4 none) = true := by decide

/-- VA10, VA15: the extended index is the code plus 0x50. -/
theorem test_extended_key : gives (exec (.feedExtKey 0xC8#8) (inCode 0x1#4)) (codeOut 0x0#4 (some 0x14#8)) = true ∧
    gives (exec (.feedExtKey 0x7F#8) (inCode 0x1#4)) (codeOut 0x0#4 (some 0x13#8)) = true := by decide

/-- VA20, VA21, VA24 to VA27. -/
theorem test_pause_rows : gives (exec .feedPauseSeq1On1D (inCode 0x2#4)) (codeOut 0x3#4 none) = true ∧
    gives (exec .feedPauseSeq1On9D (inCode 0x2#4)) (codeOut 0x4#4 none) = true ∧
    gives (exec .feedPausePressWaitOn45 (inCode 0x3#4)) (codeOut 0x0#4 (some 0x90#8)) = true ∧
    gives (exec .feedPauseReleaseWaitOnC5 (inCode 0x4#4)) (codeOut 0x0#4 (some 0x91#8)) = true := by decide

/-- VA28, VA30, VA32, VA34. -/
theorem test_printScreen_rows : gives (exec .feedPrtScPressWait1OnE0 (inCode 0x5#4)) (codeOut 0x6#4 none) = true ∧
    gives (exec .feedPrtScPressWait2On37 (inCode 0x6#4)) (codeOut 0x0#4 (some 0x92#8)) = true ∧
    gives (exec .feedPrtScReleaseWait1OnE0 (inCode 0x7#4)) (codeOut 0x8#4 none) = true ∧
    gives (exec .feedPrtScReleaseWait2OnAA (inCode 0x8#4)) (codeOut 0x0#4 (some 0x93#8)) = true := by decide

/-- VA22, VA25, VA27, VA29, VA31, VA33, VA35: a broken sequence enters Error. -/
theorem test_entries_to_error : gives (exec (.feedPauseSeq1Other 0xE1#8) (inCode 0x2#4)) (codeOut 0xA#4 none) = true ∧
    gives (exec (.feedPausePressWaitOther 0xC5#8) (inCode 0x3#4)) (codeOut 0xA#4 none) = true ∧
    gives (exec (.feedPauseReleaseWaitOther 0x45#8) (inCode 0x4#4)) (codeOut 0xA#4 none) = true ∧
    gives (exec (.feedPrtScPressWait1Other 0x37#8) (inCode 0x5#4)) (codeOut 0xA#4 none) = true ∧
    gives (exec (.feedPrtScPressWait2Other 0x48#8) (inCode 0x6#4)) (codeOut 0xA#4 none) = true ∧
    gives (exec (.feedPrtScReleaseWait1Other 0xAA#8) (inCode 0x7#4)) (codeOut 0xA#4 none) = true ∧
    gives (exec (.feedPrtScReleaseWait2Other 0x37#8) (inCode 0x8#4)) (codeOut 0xA#4 none) = true := by decide

/-- VA36: the byte after an error is dropped, a prefix too. -/
theorem test_return_from_error : gives (exec (.feedErrorAny 0xE0#8) (inCode 0xA#4)) (codeOut 0x0#4 none) = true := by
  decide

/-- R106: nothing but the sticky mark. -/
theorem test_unused_state : gives (exec (.feedUnusedState 0xC#4 0x12#8) (inCode 0xC#4))
    (fun t => t.kbd.refused && t.kbd.st == 0xC#4 && t.kbd.history == []) = true := by decide

/-- VA6: ACK_BYTE outside AwaitingControllerResponse is a key. VA11: 0xE0 after the prefix is a key. -/
theorem test_feed : gives (exec (.feed 0xFA#8) start) (codeOut 0x0#4 (some 0x11#8)) = true ∧
    gives (exec (.feed 0x00#8) (inCode 0x1#4)) (codeOut 0x0#4 (some 0x15#8)) = true := by decide

/-- A row whose key `st` does not hold is not what FEED runs (log 4). -/
theorem test_row_of_another_state : gives (exec .feedStartE0 (inCode 0x1#4)) (fun _ => true) = false := by decide

/-! ### Single steps: the command queue (vectors L2-C) -/

/-- VC3 and VC4: the tail wraps; a full queue refuses. -/
theorem test_enqueue : gives (exec (.enqueue 0x03#8 0x04#8) (queued 0x0#4 15#4 1#5)) (fun t =>
      t.kbd.q.len == 2#5 && t.kbd.q.buf[0] == some ⟨0x03#8, 0x04#8⟩ && t.kbd.result == .accepted true) = true ∧
    gives (exec (.enqueue 0x05#8 0x06#8) (queued 0x0#4 3#4 16#5)) (fun t =>
      t.kbd.q == fifo 3#4 16#5 && t.kbd.result == .accepted false) = true := by decide

/-- VC9: the command's bytes in order, id first (histories are newest first). VC7: the gate is closed outside Start. -/
theorem test_tryDispatch : gives (exec .tryDispatch (queued 0x0#4 2#4 1#5)) (fun t =>
      t.kbd.st == 0x9#4 && t.kbd.history == [.write8 0x0060#16 0x02#8, .write8 0x0060#16 0x02#8] &&
      t.kbd.q == fifo 2#4 1#5) = true ∧
    gives (exec .tryDispatch (queued 0x1#4 0#4 1#5)) (fun t => t.kbd.st == 0x1#4 && t.kbd.history == []) = true := by
  decide

/-- A command's bytes go out in list order, the id before the data (R233); an exception keeps its own list. -/
theorem test_transmit_order : (Kbd.transmit start.kbd ⟨0xED#8, 0x07#8⟩).history =
      [.write8 0x0060#16 0x07#8, .write8 0x0060#16 0xED#8] ∧
    (Kbd.transmit start.kbd ⟨0xF4#8, 0x00#8⟩).history = [.write8 0x0060#16 0xF4#8] := by decide

/-- VC12: the head wraps. -/
theorem test_ack : gives (exec .feedAwaitingAck (queued 0x9#4 15#4 2#5)) (fun t =>
    t.kbd.st == 0x0#4 && t.kbd.q.start == 0#4 && t.kbd.q.len == 1#5 && t.kbd.result == .emitted none) = true := by decide

/-- VC13. -/
theorem test_resend : gives (exec .feedAwaitingResend (queued 0x9#4 7#4 1#5)) (fun t =>
    t.kbd.st == 0x9#4 && t.kbd.q == fifo 7#4 1#5 &&
    t.kbd.history == [.emit none, .write8 0x0060#16 0x07#8, .write8 0x0060#16 0x07#8]) = true := by decide

/-- VC15: a prefix byte is a response too. -/
theorem test_other_response : gives (exec (.feedAwaitingOther 0xE0#8) (queued 0x9#4 0#4 1#5)) (fun t =>
    t.kbd.st == 0x0#4 && t.kbd.q == fifo 0#4 1#5) = true := by decide

/-- The head of an empty FIFO is no command (log 17). -/
theorem test_ack_without_command : exec .feedAwaitingAck (inCode 0x9#4) = .fault .noHeadCommand := rfl

/-! ### Single steps: the ModifierTracker (vectors L2-B) -/

/-- VB5 and VB7. -/
theorem test_modApply_character : gives (exec (.modApply 0x61#8 0x1E#8) (flagged 0x0012#16)) (fun t =>
      t.kbd.result == .adjusted 0x61#8 0x0013#16) = true ∧
    gives (exec (.modApply 0x31#8 0x02#8) (flagged 0x0010#16)) (fun t =>
      t.kbd.result == .adjusted 0x21#8 0x0011#16 && t.kbd.flags == 0x0011#16) = true := by decide

/-- VB14 and VB19. -/
theorem test_modApply_flags : gives (exec (.modApply 0x80#8 0xDA#8) (flagged 0x0011#16)) (fun t =>
      t.kbd.flags == 0x0000#16) = true ∧
    gives (exec (.modApply 0x86#8 0x5C#8) (flagged 0x0002#16)) (fun t => t.kbd.flags == 0x0001#16) = true := by decide

/-! ### Single steps: POLL (vectors L2-F) -/

/-- VF2: bits 7 to 1 of the status are ignored. VF3: one key, one callback. -/
theorem test_poll : gives (exec .poll (polled 0x0#4 [0xFE#8, 0x1E#8])) (fun t =>
      t.kbd.history == [.read8 0x0064#16 0xFE#8] && t.kbd.draws == [0x1E#8]) = true ∧
    gives (exec .poll (polled 0x0#4 [0x01#8, 0x1E#8])) (fun t => t.kbd.flags == 0x0001#16 &&
      t.kbd.history == [.callback 0x61#8 0x1E#8 0x0001#16, .emit (some 0x61#8), .read8 0x0060#16 0x1E#8,
        .read8 0x0064#16 0x01#8]) = true := by decide

/-! ### Single steps: the PCI Unit (vectors L1-6, L1-7, L2-D, L2-E) -/

/-- VD1 and VD2. -/
theorem test_pciRead : gives (exec (.pciRead .w16 0x00#8 0#5 0#3 0x02#8) (drawn [0x12348086#32])) (fun t =>
      t.pci.result == .value 0x00001234#32 &&
      t.pci.history == [.read32 0x0CFC#16 0x12348086#32, .write32 0x0CF8#16 0x80000000#32]) = true ∧
    gives (exec (.pciRead .w8 0x00#8 3#5 0#3 0x0E#8) (drawn [0x00800000#32])) (fun t =>
      t.pci.result == .value 0x00000080#32 && t.pci.addrLatch == 0x8000180C#32) = true := by decide

/-- The extraction table of L2-D: offset 3 of a 16-bit read keeps the last byte (D19), a 32-bit read ignores it. -/
theorem test_extract : extract 0x12348086#32 0x03#8 .w16 = 0x00000012#32 ∧
    extract 0x12348086#32 0x01#8 .w16 = 0x00003480#32 ∧ extract 0x12348086#32 0x03#8 .w32 = 0x12348086#32 ∧
    extract 0x12348086#32 0x02#8 .w8 = 0x00000034#32 := by decide

/-- VD10: offset 0x12 goes to dword 0x10. -/
theorem test_pciWrite32 : gives (exec (.pciWrite32 0x00#8 3#5 1#3 0x12#8 0xFEBF0000#32) start) (fun t =>
    t.pci.history == [.write32 0x0CFC#16 0xFEBF0000#32, .write32 0x0CF8#16 0x80001910#32]) = true := by decide

/-- L1-7: 0x0000FFFF is absent, 0xFFFF0000 is present. -/
theorem test_deviceExists : gives (exec (.deviceExists 0x00#8 1#5 0#3) (drawn [0x0000FFFF#32])) (fun t =>
      t.pci.result == .present false && t.pci.addrLatch == 0x80000800#32) = true ∧
    gives (exec (.deviceExists 0x00#8 1#5 0#3) (drawn [0xFFFF0000#32])) (fun t =>
      t.pci.result == .present true) = true := by decide

/-- L1-8 and VE3: the scan stops when it finds one function more than fits. -/
theorem test_enumerate : gives (exec (.enumerate 1#32)
      (drawn [0x12378086#32, 0x00000000#32, 0xFFFFFFFF#32, 0xFFFFFFFF#32, 0x70008086#32])) (fun t =>
        t.pci.result == .entries 1 [0x0000#16] && t.pci.drawCount == 5) = true ∧
    gives (exec (.enumerate 2#32) (drawn [0x12378086#32, 0x00000000#32, 0xFFFFFFFF#32, 0xFFFFFFFF#32, 0x70008086#32,
      0x00800000#32, 0x70108086#32])) (fun t =>
        t.pci.result == .entries 2 [0x0000#16, 0x0018#16] && t.pci.drawCount == 7) = true := by decide

/-- VD6 and R118. -/
theorem test_reserved : gives (exec .pciReadReservedWidth start) (fun t =>
      t.pci.refused && !t.kbd.refused && t.pci.history == []) = true ∧
    gives (exec .reservedF start) (fun t => t.pci.refused && t.kbd.refused) = true := by decide

/-! ### Single steps: RESET and the calls -/

/-- VG2: the command in flight is dropped. VG4: the sticky mark stays. -/
theorem test_reset : gives (exec .reset (queued 0x9#4 7#4 3#5)) (fun t =>
      t.kbd.st == 0x0#4 && t.kbd.q == Fifo.empty && t.kbd.history == []) = true ∧
    gives (exec .reset { start with kbd := { start.kbd with refused := true } }) (fun t => t.kbd.refused) = true := by
  decide

/-- VD11: a sub-word configuration write is refused with no transaction. -/
theorem test_step_subword_write : gives (step (calling [⟨.subwordWrite .w16 0#8 1#5 0#3 4#8 7#16, false⟩])) (fun t =>
    t.pci.refused && t.pci.history == [] && t.requests == []) = true := by decide

/-- The oldest call is taken first. -/
theorem test_step_takes_oldest : gives
    (step (calling [⟨.word 0x10000000000000E0#64, false⟩, ⟨.word 0x9000000000000000#64, false⟩])) (fun t =>
      t.kbd.st == 0x1#4 && t.requests == [⟨.word 0x9000000000000000#64, false⟩]) = true := by decide

/-- A placed row of AwaitingControllerResponse runs with a command in flight (log 18). -/
theorem test_placed_ack : gives (step (start.withFetchWord 16 0x9FA)) (fun t =>
    t.kbd.st == 0x0#4 && t.kbd.q.len == 0#5) = true := by decide

/-! ### Witnesses: states and operands that meet the hypotheses of the statements -/

theorem witness_DecodeOfEncode : (Instr.feedExtError 0x99#8).wellFormed params = true ∧
    (Instr.feedStartKey 0xFF#8).wellFormed params = true ∧ (Instr.feedUnusedState 0xF#4 0#8).wellFormed params = true := by
  decide

theorem witness_StepRunsDecodedRequest :
    (calling [⟨.word 0x4002000000011310#64, false⟩]).requests = ⟨.word 0x4002000000011310#64, false⟩ :: [] := rfl

theorem witness_StepRunsPlacedKey : keyState 0x8AA#12 ≠ 0x9#4 ∧ keyState 0xAFA#12 ≠ 0x9#4 := by decide

theorem witness_StepWithoutRequestWaits : start.requests = [] := rfl

/-- A request word of each unit and of both; a sub-word write; a numeric read in range and one out of range. -/
theorem witness_ConcurrentUseIsRefused :
    (∀ w : RequestWord, Call.subwordWrite .w8 0#8 0#5 0#3 0#8 0#16 ≠ .word w ∧ Call.numericRead .w8 255 31 7 255 ≠ .word w ∧
      Call.numericRead .w8 256 0 0 0 ≠ .word w) ∧
    (calling [⟨.numericRead .w8 256 0 0 0, true⟩]).requests = ⟨.numericRead .w8 256 0 0 0, true⟩ :: [] ∧
    (calling [⟨.word 0x1000000000000000#64, true⟩]).requests = ⟨.word 0x1000000000000000#64, true⟩ :: [] ∧
    unitsOf (decodeRequest 0x1000000000000000#64) = ⟨true, false⟩ ∧
    unitsOf (decodeRequest 0x6000000000000000#64) = ⟨false, true⟩ ∧
    unitsOf (decodeRequest 0x0000000000000000#64) = ⟨true, true⟩ ∧
    unitsOf (decodeRequest 0xF000000000000000#64) = ⟨true, true⟩ :=
  ⟨fun _ => ⟨nofun, nofun, nofun⟩, by decide⟩

/-- The first value beyond the range of each operand, and the last values inside. -/
theorem witness_CallsWithoutWordAreRefused :
    (calling [⟨.subwordWrite .w8 0#8 0#5 0#3 0#8 0#16, false⟩]).requests =
      ⟨.subwordWrite .w8 0#8 0#5 0#3 0#8 0#16, false⟩ :: [] ∧
    (calling [⟨.numericRead .w8 256 32 8 256, false⟩]).requests = ⟨.numericRead .w8 256 32 8 256, false⟩ :: [] ∧
    (256 > 255 ∨ 0 > 31 ∨ 0 > 7 ∨ 0 > 255) ∧ (0 > 255 ∨ 32 > 31 ∨ 0 > 7 ∨ 0 > 255) ∧
    (0 > 255 ∨ 0 > 31 ∨ 8 > 7 ∨ 0 > 255) ∧ (0 > 255 ∨ 0 > 31 ∨ 0 > 7 ∨ 256 > 255) ∧
    (0xFF#8).toNat = 255 ∧ (0x1F#5).toNat = 31 ∧ (7#3).toNat = 7 := by decide

theorem witness_StartRows : start.kbd.st = 0x0#4 ∧ 0xDF#8 ≠ 0xE0#8 ∧ 0xDF#8 ≠ 0xE1#8 ∧ 0xE2#8 ≠ 0xE0#8 ∧
    0xE2#8 ≠ 0xE1#8 := by decide

theorem witness_ExtendedPrefixRows : (inCode 0x1#4).kbd.st = 0x1#4 ∧ 0x99#8 ≠ 0x2A#8 ∧ 0x99#8 ≠ 0xB7#8 ∧
    0x99#8 ∈ (inCode 0x1#4).kbd.params.extErrorSet ∧ 0x98#8 ≠ 0x2A#8 ∧ 0x98#8 ≠ 0xB7#8 ∧
    0x98#8 ∉ (inCode 0x1#4).kbd.params.extErrorSet := by decide

theorem witness_PauseRows : (inCode 0x2#4).kbd.st = 0x2#4 ∧ (inCode 0x3#4).kbd.st = 0x3#4 ∧
    (inCode 0x4#4).kbd.st = 0x4#4 ∧ 0x9E#8 ≠ 0x1D#8 ∧ 0x9E#8 ≠ 0x9D#8 ∧ 0x46#8 ≠ 0x45#8 ∧ 0x45#8 ≠ 0xC5#8 := by decide

theorem witness_PrintScreenRows : (inCode 0x5#4).kbd.st = 0x5#4 ∧ (inCode 0x6#4).kbd.st = 0x6#4 ∧
    (inCode 0x7#4).kbd.st = 0x7#4 ∧ (inCode 0x8#4).kbd.st = 0x8#4 ∧ 0xE1#8 ≠ 0xE0#8 ∧ 0xB7#8 ≠ 0x37#8 ∧
    0x2A#8 ≠ 0xAA#8 := by decide

theorem witness_ErrorRow : (inCode 0xA#4).kbd.st = 0xA#4 := by decide

/-- The shortest and the longest queue. -/
theorem witness_AckDequeuesHead : (queued 0x9#4 15#4 1#5).kbd.st = 0x9#4 ∧ (queued 0x9#4 15#4 1#5).kbd.q.len ≠ 0#5 ∧
    (queued 0x9#4 15#4 16#5).kbd.q.len ≠ 0#5 := by decide

theorem witness_ResendTransmitsHeadAgain : (queued 0x9#4 15#4 1#5).kbd.st = 0x9#4 ∧
    (queued 0x9#4 15#4 1#5).kbd.q.len ≠ 0#5 ∧ (queued 0x9#4 15#4 1#5).kbd.q.buf[15] = some ⟨0x0F#8, 0x0F#8⟩ := by decide

theorem witness_OtherResponseKeepsHead : (queued 0x9#4 0#4 1#5).kbd.st = 0x9#4 ∧ 0xFB#8 ≠ params.ackByte ∧
    0xFB#8 ≠ params.resendByte := by decide

theorem witness_BadStateCodeIsRefused : 0xB ≤ (inCode 0xB#4).kbd.st.toNat ∧ 0xB ≤ (inCode 0xF#4).kbd.st.toNat ∧
    (inCode 0xB#4).kbd.callbackRegistered = true := by decide

theorem witness_FeedOutputDiscipline : (inCode 0x0#4).kbd.st.toNat ≤ 0xA ∧ (inCode 0x0#4).kbd.st ≠ 0x9#4 ∧
    (inCode 0xA#4).kbd.st.toNat ≤ 0xA ∧ (inCode 0xA#4).kbd.st ≠ 0x9#4 := by decide

/-- One byte for each of the three clauses. -/
theorem witness_FeedWhileAwaitingIsResponse : (queued 0x9#4 3#4 1#5).kbd.st = 0x9#4 ∧
    (queued 0x9#4 3#4 1#5).kbd.q.len ≠ 0#5 ∧ (queued 0x9#4 3#4 1#5).kbd.q.buf[3] = some ⟨0x03#8, 0x03#8⟩ ∧
    0xFA#8 = params.ackByte ∧ 0xFE#8 ≠ params.ackByte ∧ 0xFE#8 = params.resendByte ∧ 0xFF#8 ≠ params.ackByte ∧
    0xFF#8 ≠ params.resendByte := by decide

/-- The keyboard invariant in AwaitingControllerResponse with one command. -/
theorem witness_kbdInv_awaiting : (queued 0x9#4 15#4 1#5).kbd.Inv where
  legal := by decide
  fifo := by decide
  inFlight := by decide
  flags := by decide
  params := by decide
  traffic := fun _ h => absurd (show _ ∈ ([] : List Event) from h) List.not_mem_nil

theorem witness_DecoderHealsWithinFourBytes : ((inCode 0x5#4).kbd.st.toNat ≤ 0xA ∧ (inCode 0x5#4).kbd.st ≠ 0x9#4) ∧
    ((queued 0x9#4 15#4 1#5).kbd.Inv ∧ (queued 0x9#4 15#4 1#5).kbd.st = 0x9#4) ∧ 0xFA#8 ≠ params.resendByte ∧
    0xFE#8 = params.resendByte := ⟨by decide, ⟨witness_kbdInv_awaiting, by decide⟩, by decide, by decide⟩

theorem witness_EscapeFormsEmitOnce : start.kbd.st = 0x0#4 ∧ 0x2B#8 ≠ 0x2A#8 ∧ 0x2B#8 ≠ 0xB7#8 ∧
    0x2B#8 ∉ start.kbd.params.extErrorSet := by decide

/-- An empty queue, one free slot, and a full queue. -/
theorem witness_EnqueueWritesTailSlot : (queued 0x0#4 15#4 0#5).kbd.q.len.toNat ≤ 16 ∧
    (queued 0x0#4 15#4 0#5).kbd.q.len ≠ 16#5 ∧ (queued 0x0#4 15#4 15#5).kbd.q.len ≠ 16#5 ∧
    (queued 0x0#4 15#4 16#5).kbd.q.len.toNat ≤ 16 ∧ (queued 0x0#4 15#4 16#5).kbd.q.len = 16#5 := by decide

/-- Each clause's operation answers a next state on a well-formed queue. -/
theorem witness_FifoRefinesQueue : (queued 0x9#4 15#4 2#5).kbd.q.wf ∧ (queued 0x0#4 3#4 16#5).kbd.q.wf ∧
    (∃ t, exec (.enqueue 1#8 2#8) (queued 0x0#4 3#4 16#5) = .next t) ∧
    (∃ t, exec (.enqueue 1#8 2#8) (queued 0x9#4 15#4 2#5) = .next t) ∧
    (∃ t, exec .feedAwaitingAck (queued 0x9#4 15#4 2#5) = .next t) ∧
    (∃ t, exec .feedAwaitingResend (queued 0x9#4 15#4 2#5) = .next t) ∧
    (∃ t, exec (.feedAwaitingOther 0x1E#8) (queued 0x9#4 15#4 2#5) = .next t) ∧
    (∃ t, exec .tryDispatch (queued 0x0#4 3#4 16#5) = .next t) :=
  ⟨by decide, by decide, ⟨_, rfl⟩, ⟨_, rfl⟩, ⟨_, rfl⟩, ⟨_, rfl⟩, ⟨_, rfl⟩, ⟨_, rfl⟩⟩

theorem witness_DispatchOnlyFromStart : ((queued 0x0#4 0#4 1#5).kbd.st = 0x0#4 ∧ (queued 0x0#4 0#4 1#5).kbd.q.len ≠ 0#5 ∧
      (queued 0x0#4 0#4 1#5).kbd.q.buf[0] = some ⟨0x00#8, 0x00#8⟩) ∧
    ((queued 0xA#4 0#4 1#5).kbd.st.toNat ≤ 0xA ∧ (queued 0xA#4 0#4 1#5).kbd.st ≠ 0x0#4) ∧
    ((queued 0x0#4 0#4 0#5).kbd.st.toNat ≤ 0xA ∧ (queued 0x0#4 0#4 0#5).kbd.q.len = 0#5) := by decide

/-- By an ACK row, by FEED, and by a POLL that reads the ACK. -/
theorem witness_OnlyAckDequeues : (queued 0x9#4 15#4 1#5).kbd.q.wf ∧ (polled 0x9#4 [0x01#8, 0xFA#8]).kbd.q.wf ∧
    (∃ t, exec .feedAwaitingAck (queued 0x9#4 15#4 1#5) = .next t ∧
      t.kbd.q.len.toNat < (queued 0x9#4 15#4 1#5).kbd.q.len.toNat) ∧
    (∃ t, exec (.feed 0xFA#8) (queued 0x9#4 15#4 1#5) = .next t ∧
      t.kbd.q.len.toNat < (queued 0x9#4 15#4 1#5).kbd.q.len.toNat) ∧
    ∃ t, exec .poll (polled 0x9#4 [0x01#8, 0xFA#8]) = .next t ∧
      t.kbd.q.len.toNat < (polled 0x9#4 [0x01#8, 0xFA#8]).kbd.q.len.toNat :=
  ⟨by decide, by decide, ⟨_, rfl, by decide⟩, ⟨_, rfl, by decide⟩, ⟨_, rfl, by decide⟩⟩

/-- By a dispatch, by a RESEND row, by FEED, and by a POLL that reads the RESEND. -/
theorem witness_OnlyHeadCommandIsSent :
    (∃ t, exec .tryDispatch (queued 0x0#4 0#4 1#5) = .next t ∧
      portWrites t.kbd.history ≠ portWrites (queued 0x0#4 0#4 1#5).kbd.history) ∧
    (∃ t, exec .feedAwaitingResend (queued 0x9#4 0#4 1#5) = .next t ∧
      portWrites t.kbd.history ≠ portWrites (queued 0x9#4 0#4 1#5).kbd.history) ∧
    (∃ t, exec (.feed 0xFE#8) (queued 0x9#4 0#4 1#5) = .next t ∧
      portWrites t.kbd.history ≠ portWrites (queued 0x9#4 0#4 1#5).kbd.history) ∧
    ∃ t, exec .poll (polled 0x9#4 [0x01#8, 0xFE#8]) = .next t ∧
      portWrites t.kbd.history ≠ portWrites (polled 0x9#4 [0x01#8, 0xFE#8]).kbd.history :=
  ⟨⟨_, rfl, by decide⟩, ⟨_, rfl, by decide⟩, ⟨_, rfl, by decide⟩, ⟨_, rfl, by decide⟩⟩

theorem witness_ModApplyFlags : start.kbd.params.wf = true := by decide

/-- The letters' bounds, the bytes outside them, and the last raw byte inside the shift table and the first outside. -/
theorem witness_ModApplyCharacter : 0x61 ≤ (0x61#8).toNat ∧ (0x61#8).toNat ≤ 0x7A ∧ 0x61 ≤ (0x7A#8).toNat ∧
    (0x7A#8).toNat ≤ 0x7A ∧ (0x60#8).toNat < 0x61 ∧ 0x7A < (0x7B#8).toNat ∧
    (0x39#8).toNat < start.kbd.params.shiftTableLen.val ∧ start.kbd.params.shiftTableLen.val ≤ (0x3A#8).toNat ∧
    gives (exec (.modApply 0x31#8 0x39#8) (flagged 0x0010#16)) (fun t =>
      (t.kbd.flags.getLsbD 4 || t.kbd.flags.getLsbD 5) && t.kbd.result == .adjusted 0x22#8 0x0011#16) = true := by decide

theorem witness_PollWithoutByteReadsStatusOnly : (polled 0x0#4 [0xFE#8]).kbd.callbackRegistered = true ∧
    (polled 0xA#4 [0xFE#8]).kbd.st.toNat ≤ 0xA ∧ (polled 0x0#4 [0xFE#8]).kbd.st.toNat ≤ 0xA ∧
    (polled 0x0#4 [0xFE#8]).kbd.nextDraw.getLsbD 0 = false := by decide

theorem witness_PollBeforeRegistrationIsRefused :
    { start with kbd := { start.kbd with callbackRegistered := false } }.kbd.callbackRegistered = false := rfl

/-- A byte that emits nothing, a release and a press. -/
theorem witness_PollRoutesByte : (polled 0x0#4 [0x01#8, 0x1E#8]).kbd.callbackRegistered = true ∧
    (polled 0x0#4 [0x01#8, 0x1E#8]).kbd.st.toNat ≤ 0xA ∧ (polled 0x0#4 [0x01#8, 0x1E#8]).kbd.nextDraw.getLsbD 0 = true ∧
    ((polled 0x0#4 [0x01#8, 0x1E#8]).kbd.afterRead 0x0064#16).nextDraw = 0x1E#8 ∧
    gives (exec (.feed 0x1E#8) start) (fun u => u.kbd.result == .emitted (some 0x61#8)) = true ∧
    gives (exec (.feed 0x9E#8) start) (fun u => u.kbd.result == .emitted (some 0x61#8)) = true ∧
    gives (exec (.feed 0xE0#8) start) (fun u => u.kbd.result == .emitted none) = true := by decide

theorem witness_PollDeliversKey : (polled 0x0#4 [0x01#8, 0x9E#8]).kbd.callbackRegistered = true ∧
    (polled 0x0#4 [0x01#8, 0x9E#8]).kbd.st = 0x0#4 ∧ (polled 0x0#4 [0x01#8, 0x9E#8]).kbd.nextDraw.getLsbD 0 = true ∧
    ((polled 0x0#4 [0x01#8, 0x9E#8]).kbd.afterRead 0x0064#16).nextDraw = 0x9E#8 ∧ 0x9E#8 ≠ 0xE0#8 ∧ 0x9E#8 ≠ 0xE1#8 := by
  decide

theorem witness_CallbacksArePressesFromPoll : ∃ t, exec .poll (polled 0x0#4 [0x01#8, 0x1E#8]) = .next t ∧
    callbacks t.kbd.history ≠ callbacks (polled 0x0#4 [0x01#8, 0x1E#8]).kbd.history := ⟨_, rfl, by decide⟩

/-- A present function, and the first offset outside dword 0 of an absent one. -/
theorem witness_PciReadSequence : ((0x00#8 ++ 0#5 ++ 0#3 : BitVec 16) ∉ start.pci.absent ∨ 4 ≤ (0x00#8).toNat) ∧
    ((0x00#8 ++ 1#5 ++ 0#3 : BitVec 16) ∉ (lacking [0x0008#16]).pci.absent ∨ 4 ≤ (0x04#8).toNat) := by decide

theorem witness_DeviceExistsTestsVendorId : (0x00#8 ++ 0#5 ++ 0#3 : BitVec 16) ∉ (lacking [0x0008#16]).pci.absent := by
  decide

theorem witness_AbsentFunctionReadsSentinel : (0xFF#8 ++ 0x1F#5 ++ 7#3 : BitVec 16) ∈ (lacking [0xFFFF#16]).pci.absent := by
  decide

/-- A scan that finds functions 0 and 1 of device 0 and stops at the third. -/
def multiFunction : State := drawn [0x12378086#32, 0x00800000#32, 0x70108086#32, 0x70208086#32]

theorem witness_EnumerateAscends : ∃ t, exec (.enumerate 2#32) multiFunction = .next t ∧
    t.pci.result = .entries 2 [0x0000#16, 0x0001#16] := ⟨_, rfl, by decide⟩

theorem witness_EnumerateListsWhatItsReadsFound : ∃ t, exec (.enumerate 0#32) multiFunction = .next t ∧
    t.pci.result = .entries 0 [] := ⟨_, rfl, by decide⟩

theorem witness_EnumerateSkipsAbsentDevices :
    ∃ t, exec (.enumerate 1#32) { multiFunction with pci := { multiFunction.pci with absent := [0x0001#16] } } = .next t ∧
      t.pci.result = .entries 1 [0x0000#16] := ⟨_, rfl, by decide⟩

/-- R296: an absent function 0 leads to the next slot, a present one to its header type, bit 7 of which leads to function
1, and function 7 to the next slot; the space ends after (255, 31, 7). -/
theorem test_scanNext : scanNext 0x80000000#32 0x1234FFFF#32 = some 0x80000800#32 ∧
    scanNext 0x80000000#32 0x12348086#32 = some 0x8000000C#32 ∧
    scanNext 0x8000000C#32 0x00800000#32 = some 0x80000100#32 ∧
    scanNext 0x8000000C#32 0xFF7FFFFF#32 = some 0x80000800#32 ∧
    scanNext 0x80000600#32 0x0000FFFF#32 = some 0x80000700#32 ∧ scanNext 0x80000700#32 0#32 = some 0x80000800#32 ∧
    scanNext 0x8000F800#32 0xFFFFFFFF#32 = some 0x80010000#32 ∧ scanNext 0x80FFF800#32 0xFFFFFFFF#32 = none ∧
    scanNext 0x80FFFF00#32 0#32 = none := by decide

/-- Both kinds of answer: a function outside `absent`, and one in it. -/
theorem witness_EnumerateTraffic : (0x80000000#32).extractLsb' 8 16 ∉ (lacking [0x0008#16]).pci.absent ∧
    (0x80000800#32).extractLsb' 8 16 ∈ (lacking [0x0008#16]).pci.absent ∧ (0x80000800#32).extractLsb' 2 6 = 0#6 := by
  decide

theorem mem_allBitVecs {n : Nat} (x : BitVec n) : x ∈ (List.range (2 ^ n)).map (BitVec.ofNat n) :=
  List.mem_map.2 ⟨x.toNat, List.mem_range.2 x.isLt, by simp⟩

theorem lacking_all (fs : List (BitVec 16)) (h : ∀ x, x ∈ fs) (bus : BitVec 8) (dev : BitVec 5) :
    (bus ++ dev ++ 0#3 : BitVec 16) ∈ (lacking fs).pci.absent := h _

/-- A platform with no function at all. -/
theorem witness_EnumerateEmptySpace :
    ∃ s : State, ∀ (bus : BitVec 8) (dev : BitVec 5), (bus ++ dev ++ 0#3 : BitVec 16) ∈ s.pci.absent :=
  ⟨lacking ((List.range (2 ^ 16)).map (BitVec.ofNat 16)), lacking_all _ mem_allBitVecs⟩

theorem witness_stateInv : (polled 0x0#4 [0x01#8, 0x1E#8]).Inv where
  kbd := { legal := by decide, fifo := by decide, inFlight := by decide, flags := by decide, params := by decide,
           traffic := fun _ h => absurd (show _ ∈ ([] : List Event) from h) List.not_mem_nil }
  pci := { traffic := fun _ h => absurd (show _ ∈ ([] : List Event) from h) List.not_mem_nil, entryBits := by decide }

theorem witness_StepKeepsInvariant : (polled 0x0#4 [0x01#8, 0x1E#8]).Inv ∧
    (∃ t, step (polled 0x0#4 [0x01#8, 0x1E#8]) = .next t) ∧
    ∃ t, step ((polled 0x0#4 [0x01#8, 0x1E#8]).placeRequest 0x9000000000000000#64) = .next t :=
  ⟨witness_stateInv, ⟨_, rfl⟩, ⟨_, rfl⟩⟩

theorem witness_StepNeverStops : (polled 0x0#4 [0x01#8, 0x1E#8]).Inv := witness_stateInv

/-- A Keyboard Unit operation, and RESET. -/
theorem witness_UnitsCommute : unitsOf (.feed 0xE0#8) = ⟨true, false⟩ ∧ unitsOf (.deviceExists 0#8 0#5 0#3) = ⟨false, true⟩ ∧
    (∃ t, exec (.feed 0xE0#8) start = .next t ∧ ∃ u, exec (.deviceExists 0#8 0#5 0#3) t = .next u) ∧
    ∃ t, exec .reset start = .next t ∧ ∃ u, exec (.deviceExists 0#8 0#5 0#3) t = .next u :=
  ⟨rfl, rfl, ⟨_, rfl, ⟨_, rfl⟩⟩, ⟨_, rfl, ⟨_, rfl⟩⟩⟩

theorem witness_OtherUnitIsUntouched : (∃ t, exec .poll (polled 0x0#4 [0x01#8, 0x1E#8]) = .next t) ∧
    unitsOf .poll = ⟨true, false⟩ ∧ (∃ t, exec (.enumerate 2#32) multiFunction = .next t) ∧
    unitsOf (.enumerate 2#32) = ⟨false, true⟩ := ⟨⟨_, rfl⟩, rfl, ⟨_, rfl⟩, rfl⟩

/-- A Keyboard Unit operation, and RESET. -/
theorem witness_KeyboardDoesNotSeePci : start.kbd = (lacking [0x0000#16]).kbd ∧
    (∃ t, exec (.feed 0xE0#8) start = .next t) ∧ ∃ t, exec .reset start = .next t := ⟨rfl, ⟨_, rfl⟩, ⟨_, rfl⟩⟩

/-- Two states of different Keyboard Units, and operations of the PCI Unit and of both. -/
theorem witness_PciDoesNotSeeKeyboard : start.pci = (inCode 0xB#4).pci ∧
    (unitsOf (.deviceExists 0#8 0#5 0#3)).pci = true ∧ (unitsOf .reset).pci = true ∧ (unitsOf .reservedA).pci = true ∧
    (∃ t, exec (.deviceExists 0#8 0#5 0#3) start = .next t) ∧
    ∃ t, exec (.deviceExists 0#8 0#5 0#3) (inCode 0xB#4) = .next t := ⟨rfl, rfl, rfl, rfl, ⟨_, rfl⟩, ⟨_, rfl⟩⟩

theorem witness_ParametersAreImmutable : ∃ t, step (start.placeRequest 0x0000000000000000#64) = .next t := ⟨_, rfl⟩

theorem witness_RefusedMarksAreSticky :
    { start with kbd := { start.kbd with refused := true }, pci := { start.pci with refused := true } }.kbd.refused = true ∧
    { start with kbd := { start.kbd with refused := true }, pci := { start.pci with refused := true } }.pci.refused = true ∧
    ∃ t, step ({ start with kbd := { start.kbd with refused := true }, pci := { start.pci with refused := true }
      }.placeRequest 0x0000000000000000#64) = .next t := ⟨rfl, rfl, ⟨_, rfl⟩⟩

theorem witness_WhoWritesDecoderState : (Instr.feed 0xE0#8).wellFormed start.kbd.params = true ∧
    ∃ t, exec (.feed 0xE0#8) start = .next t ∧ t.kbd.st ≠ start.kbd.st := ⟨rfl, ⟨_, rfl, by decide⟩⟩

theorem witness_WhoWritesKeyFlags : ∃ t, exec (.modApply 0x61#8 0x1E#8) start = .next t ∧ t.kbd.flags ≠ start.kbd.flags :=
  ⟨_, rfl, by decide⟩

theorem witness_HistoriesOnlyGrow : ∃ t, step (start.placeRequest 0x4000000000000000#64) = .next t := ⟨_, rfl⟩

end Sys2Proof.Tests
end

section
/-!
SUPPORT. The call a step takes (spec/00_scope.md R13, spec/20_memory.md R85), and the proof that a step runs it.
-/

namespace Sys2Proof.Machine

/-- A request word that no other agent overlaps is taken off the list and runs as the operation it decodes to. -/
theorem State.fetch_word {s : State} {w : RequestWord} {rest : List Request}
    (h : s.requests = ⟨.word w, false⟩ :: rest) :
    s.fetch = .run (decodeRequest w) { s with requests := rest } := by
  simp [State.fetch, Call.instr, h]

theorem step_of_fetch_run {s t : State} {i : Instr} (h : s.fetch = .run i t) : step s = exec i t := by
  simp [step, h]

theorem codeOfBits_request (w : RequestWord) : codeOfBits 64 w.toNat = .ok (.request w) := by
  simp [codeOfBits]

theorem State.withFetchWord_request (s : State) (w : RequestWord) :
    s.withFetchWord 64 w.toNat = s.placeRequest w := by
  simp [State.withFetchWord, State.placeBits, codeOfBits_request]

/-- Settles O4: both clauses are one step whose fetched call is the word; in the second, taking the placed call off the
list gives the state it was placed in. -/
theorem stepRunsDecodedRequest : Obligations.StepRunsDecodedRequest := by
  refine ⟨fun s w rest h => step_of_fetch_run (State.fetch_word h), fun s w => ?_⟩
  have hfetch : (s.placeRequest w).fetch = .run (decodeRequest w) s := State.fetch_word rfl
  rw [State.withFetchWord_request]
  exact step_of_fetch_run hfetch

end Sys2Proof.Machine
end

section
/-!
SUPPORT. What every operation keeps: a unit's parameters, its sticky mark once set, and its recorded events, in front of
which new ones are put (spec/00_scope.md R16, R17; log 6). The relation `Extends` says so of two states of a unit. It is
reflexive and transitive, each shared operation satisfies it, and hence every instruction and every step.
-/

namespace Sys2Proof.Machine

/-! ### The relation -/

/-- `k'` is a later state of the Keyboard Unit `k`: same parameters, no mark cleared, no recorded event lost. -/
structure Kbd.Extends (k k' : Kbd) : Prop where
  params : k'.params = k.params
  callbackRegistered : k'.callbackRegistered = k.callbackRegistered
  refused : k.refused = true → k'.refused = true
  history : k.history <:+ k'.history

/-- `u'` is a later state of the PCI Unit `u`. -/
structure Pci.Extends (u u' : Pci) : Prop where
  absent : u'.absent = u.absent
  entryBits : u'.entryBits = u.entryBits
  refused : u.refused = true → u'.refused = true
  history : u.history <:+ u'.history

/-- Both units of `t` are later states of those of `s`. -/
structure State.Extends (s t : State) : Prop where
  kbd : s.kbd.Extends t.kbd
  pci : s.pci.Extends t.pci

theorem Kbd.Extends.refl (k : Kbd) : k.Extends k := ⟨rfl, rfl, id, List.suffix_rfl⟩

theorem Kbd.Extends.trans {k k₁ k₂ : Kbd} (h : k.Extends k₁) (h' : k₁.Extends k₂) : k.Extends k₂ where
  params := h'.params.trans h.params
  callbackRegistered := h'.callbackRegistered.trans h.callbackRegistered
  refused := h'.refused ∘ h.refused
  history := h.history.trans h'.history

theorem Pci.Extends.refl (u : Pci) : u.Extends u := ⟨rfl, rfl, id, List.suffix_rfl⟩

theorem Pci.Extends.trans {u u₁ u₂ : Pci} (h : u.Extends u₁) (h' : u₁.Extends u₂) : u.Extends u₂ where
  absent := h'.absent.trans h.absent
  entryBits := h'.entryBits.trans h.entryBits
  refused := h'.refused ∘ h.refused
  history := h.history.trans h'.history

theorem State.Extends.refl (s : State) : s.Extends s := ⟨.refl _, .refl _⟩

theorem State.Extends.trans {s s₁ s₂ : State} (h : s.Extends s₁) (h' : s₁.Extends s₂) : s.Extends s₂ :=
  ⟨h.kbd.trans h'.kbd, h.pci.trans h'.pci⟩

theorem State.extends_withKbd {s : State} {k : Kbd} (h : s.kbd.Extends k) : s.Extends { s with kbd := k } :=
  ⟨h, .refl _⟩

theorem State.extends_withPci {s : State} {u : Pci} (h : s.pci.Extends u) : s.Extends { s with pci := u } :=
  ⟨.refl _, h⟩

/-- The relation speaks of the units only: taking a call off the list does not matter to it. -/
theorem State.Extends.of_withRequests {s t : State} {rest : List Request}
    (h : State.Extends { s with requests := rest } t) : s.Extends t :=
  ⟨h.kbd, h.pci⟩

/-! ### The Keyboard Unit's operations -/

theorem Kbd.extends_setSt (k : Kbd) (d : DecoderState) : k.Extends (k.setSt d) := ⟨rfl, rfl, id, List.suffix_rfl⟩

theorem Kbd.extends_setResult (k : Kbd) (r : OpResult) : k.Extends (k.setResult r) := ⟨rfl, rfl, id, List.suffix_rfl⟩

theorem Kbd.extends_record (k : Kbd) (e : Event) : k.Extends (k.record e) := ⟨rfl, rfl, id, List.suffix_cons _ _⟩

theorem Kbd.extends_emit (k : Kbd) (e : Option Byte) : k.Extends (k.emit e) :=
  (k.extends_record _).trans (Kbd.extends_setResult _ _)

theorem Kbd.extends_refuse (k : Kbd) (r : RefusalReason) : k.Extends (k.refuse r) :=
  ⟨rfl, rfl, fun _ => rfl, List.suffix_rfl⟩

theorem Kbd.extends_portRead (k : Kbd) (port : Port) : k.Extends (k.portRead port).2 :=
  ⟨rfl, rfl, id, List.suffix_cons _ _⟩

theorem Kbd.extends_modApply (k : Kbd) (c raw : Byte) : k.Extends (k.modApply c raw).2 :=
  ⟨rfl, rfl, id, List.suffix_rfl⟩

theorem Kbd.extends_restart (k : Kbd) : k.Extends k.restart := ⟨rfl, rfl, id, List.suffix_rfl⟩

theorem Kbd.extends_withQ (k : Kbd) (q : Fifo) : k.Extends { k with q := q } := ⟨rfl, rfl, id, List.suffix_rfl⟩

theorem Kbd.extends_transmit (k : Kbd) (cmd : ControllerCommand) : k.Extends (k.transmit cmd) := by
  rw [Kbd.transmit_eq]
  exact ⟨rfl, rfl, id, List.suffix_append _ _⟩

theorem Kbd.move_extends {k k' : Kbd} {d d' : DecoderState} {e : Option Byte} (h : k.move d d' e = .next k') :
    k.Extends k' := by
  obtain ⟨-, rfl⟩ := Kbd.move_next h
  exact (k.extends_setSt d').trans (Kbd.extends_emit _ e)

theorem Kbd.tryDispatch_extends {k k' : Kbd} (h : k.tryDispatch = .next k') : k.Extends k' := by
  obtain ⟨-, rfl⟩ | ⟨cmd, -, -, -, rfl⟩ | ⟨-, -, rfl⟩ := Kbd.tryDispatch_next h
  · exact k.extends_refuse _
  · exact ((k.extends_transmit cmd).trans (Kbd.extends_setSt _ _)).trans (Kbd.extends_setResult _ _)
  · exact k.extends_setResult _

/-- POLL's delivery: MOD_APPLY and at most one callback on an emitted byte, and otherwise only the result (R310). -/
theorem Kbd.extends_deliver (k : Kbd) (b : Byte) : k.Extends (k.deliver b) := by
  unfold Kbd.deliver
  split
  next c _ =>
    have hmod : k.Extends (k.modApply c b).2 := k.extends_modApply c b
    dsimp only
    split
    · exact (hmod.trans (Kbd.extends_record _ _)).trans (Kbd.extends_setResult _ _)
    · exact hmod.trans (Kbd.extends_setResult _ _)
  next => exact k.extends_setResult _

/-! ### The PCI Unit's operations -/

theorem Pci.extends_setResult (u : Pci) (r : OpResult) : u.Extends (u.setResult r) := ⟨rfl, rfl, id, List.suffix_rfl⟩

theorem Pci.extends_refuse (u : Pci) (r : RefusalReason) : u.Extends (u.refuse r) :=
  ⟨rfl, rfl, fun _ => rfl, List.suffix_rfl⟩

theorem Pci.extends_writeAddr (u : Pci) (a : Dword) : u.Extends (u.writeAddr a) :=
  ⟨rfl, rfl, id, List.suffix_cons _ _⟩

theorem Pci.extends_writeData (u : Pci) (v : Dword) : u.Extends (u.writeData v) :=
  ⟨rfl, rfl, id, List.suffix_cons _ _⟩

theorem Pci.extends_readData (u : Pci) : u.Extends u.readData.2 := ⟨rfl, rfl, id, List.suffix_cons _ _⟩

theorem Pci.extends_configRead (u : Pci) (bus : BitVec 8) (dev : BitVec 5) (fn : BitVec 3) (off : Byte) (w : Width) :
    u.Extends (u.configRead bus dev fn off w).2 :=
  (u.extends_writeAddr _).trans (Pci.extends_readData _)

theorem Pci.extends_probe (u : Pci) (bus : BitVec 8) (dev : BitVec 5) (fn : BitVec 3) :
    u.Extends (u.probe bus dev fn).2 :=
  u.extends_configRead bus dev fn 0x00#8 .w16

/-! ### The scan: its only effects on the unit are probes and header reads -/

@[simp] theorem Scan.record_pci (c : Scan) (max : Nat) (e : BitVec 16) : (c.record max e).pci = c.pci := by
  obtain ⟨-, h⟩ | ⟨-, h⟩ := c.record_cases max e <;> rw [h]

theorem scanFunctions_extends (max : Nat) (bus : BitVec 8) (dev : BitVec 5) (fns : List (BitVec 3)) (c : Scan) :
    c.pci.Extends (scanFunctions max bus dev fns c).pci := by
  induction fns generalizing c with
  | nil => exact .refl _
  | cons fn fns ih =>
    have hprobe : c.pci.Extends (c.pci.probe bus dev fn).2 := c.pci.extends_probe bus dev fn
    simp only [scanFunctions]
    split_ifs
    · simpa using hprobe
    · exact hprobe.trans (by simpa using ih (Scan.record { c with pci := _ } max (pack bus dev fn)))
    · exact hprobe.trans (ih { c with pci := _ })

theorem scanDevice_extends (max : Nat) (bus : BitVec 8) (dev : BitVec 5) (c : Scan) :
    c.pci.Extends (scanDevice max bus dev c).pci := by
  have hprobe : c.pci.Extends (c.pci.probe bus dev 0#3).2 := c.pci.extends_probe bus dev 0#3
  have hheader := hprobe.trans (Pci.extends_configRead _ bus dev 0#3 0x0E#8 .w8)
  simp only [scanDevice, Scan.record_pci]
  split_ifs
  · simpa using hprobe
  · exact hheader.trans (scanFunctions_extends max bus dev upperFunctions { Scan.record _ _ _ with pci := _ })
  · exact hheader
  · exact hprobe

theorem scanDevices_extends (max : Nat) (bus : BitVec 8) (devs : List (BitVec 5)) (c : Scan) :
    c.pci.Extends (scanDevices max bus devs c).pci := by
  induction devs generalizing c with
  | nil => exact .refl _
  | cons dev devs ih =>
    have hdevice := scanDevice_extends max bus dev c
    simp only [scanDevices]
    split_ifs
    · exact hdevice
    · exact hdevice.trans (ih _)

theorem scanBuses_extends (max : Nat) (buses : List (BitVec 8)) (c : Scan) :
    c.pci.Extends (scanBuses max buses c).pci := by
  induction buses generalizing c with
  | nil => exact .refl _
  | cons bus buses ih =>
    have hbus := scanDevices_extends max bus allDevices c
    simp only [scanBuses]
    split_ifs
    · exact hbus
    · exact hbus.trans (ih _)

theorem Pci.extends_enumerate (u : Pci) (max : Nat) : u.Extends (u.enumerate max).pci :=
  scanBuses_extends max allBuses { stopped := false, count := 0, found := [], pci := u }

/-! ### Operations of one unit, as operations of the machine -/

theorem State.onKbd_extends {s t : State} {o : Out Kbd} (ho : ∀ k, o = .next k → s.kbd.Extends k)
    (h : s.onKbd o = .next t) : s.Extends t := by
  obtain ⟨k, hk, rfl⟩ := State.onKbd_next h
  exact State.extends_withKbd (ho k hk)

theorem State.onKbd_move_extends {s t : State} {d d' : DecoderState} {e : Option Byte}
    (h : s.onKbd (s.kbd.move d d' e) = .next t) : s.Extends t :=
  State.onKbd_extends (fun _ => Kbd.move_extends) h

/-! ### The FSM rows and FEED -/

theorem execFeedAwaitingAck_extends {s t : State} (h : execFeedAwaitingAck s = .next t) : s.Extends t := by
  refine State.onKbd_extends (fun k hk => ?_) h
  obtain ⟨-, hk⟩ := Kbd.inState_next hk
  split at hk
  next k₁ hdeq =>
    obtain ⟨-, rfl⟩ := Kbd.dequeue_next hdeq
    cases hk
    exact ((s.kbd.extends_withQ _).trans (Kbd.extends_setSt _ _)).trans (Kbd.extends_emit _ _)
  all_goals cases hk

theorem execFeedAwaitingResend_extends {s t : State} (h : execFeedAwaitingResend s = .next t) : s.Extends t := by
  refine State.onKbd_extends (fun k hk => ?_) h
  obtain ⟨-, hk⟩ := Kbd.inState_next hk
  split at hk
  next k₁ hsent =>
    obtain ⟨cmd, -, -, rfl⟩ := Kbd.transmitHead_next hsent
    cases hk
    exact (s.kbd.extends_transmit cmd).trans (Kbd.extends_emit _ _)
  all_goals cases hk

theorem execFeedUnusedState_extends {s t : State} {code : StateCode} {b : Byte}
    (h : execFeedUnusedState code b s = .next t) : s.Extends t := by
  unfold execFeedUnusedState at h
  split at h
  · cases h
    exact State.extends_withKbd (s.kbd.extends_refuse _)
  · cases h

/-- FEED is a plain move of the FSM, but for the two responses that touch the command FIFO and the unused state codes
(R140). -/
theorem feedByte_cases (b : Byte) (s : State) :
    (∃ d d' e, feedByte b s = s.onKbd (s.kbd.move d d' e)) ∨ feedByte b s = execFeedAwaitingAck s ∨
    feedByte b s = execFeedAwaitingResend s ∨ feedByte b s = execFeedUnusedState s.kbd.st b s := by
  unfold feedByte
  cases DecoderState.ofCode s.kbd.st with
  | none => exact .inr (.inr (.inr rfl))
  | some d =>
    cases d with
    | awaitingControllerResponse =>
      dsimp only
      split_ifs
      · exact .inr (.inl rfl)
      · exact .inr (.inr (.inl rfl))
      · exact .inl ⟨_, _, _, rfl⟩
    | error => exact .inl ⟨_, _, _, rfl⟩
    | _ =>
      dsimp only
      split_ifs <;> exact .inl ⟨_, _, _, rfl⟩

theorem feedByte_extends {b : Byte} {s t : State} (h : feedByte b s = .next t) : s.Extends t := by
  obtain ⟨d, d', e, hrow⟩ | hrow | hrow | hrow := feedByte_cases b s <;> rw [hrow] at h
  · exact State.onKbd_move_extends h
  · exact execFeedAwaitingAck_extends h
  · exact execFeedAwaitingResend_extends h
  · exact execFeedUnusedState_extends h

/-! ### POLL and ENQUEUE -/

theorem pollByte_extends {s t : State} (h : pollByte s = .next t) : s.Extends t := by
  simp only [pollByte] at h
  split at h
  next t₁ hfeed =>
    cases h
    have hread := State.extends_withKbd (s.kbd.extends_portRead Config.kbdDataPort)
    exact (hread.trans (feedByte_extends hfeed)).trans (State.extends_withKbd (t₁.kbd.extends_deliver _))
  all_goals cases h

theorem execPoll_extends {s t : State} (h : execPoll s = .next t) : s.Extends t := by
  have hstatus := s.kbd.extends_portRead Config.kbdStatusPort
  simp only [execPoll] at h
  split_ifs at h
  · cases h
    exact State.extends_withKbd (s.kbd.extends_refuse _)
  · cases h
    exact State.extends_withKbd (s.kbd.extends_refuse _)
  · exact (State.extends_withKbd hstatus).trans (pollByte_extends h)
  · cases h
    exact State.extends_withKbd (hstatus.trans (Kbd.extends_setResult _ _))

theorem execEnqueue_extends {id data : Byte} {s t : State} (h : execEnqueue id data s = .next t) : s.Extends t := by
  unfold execEnqueue at h
  split at h
  · cases h
    exact State.extends_withKbd (s.kbd.extends_setResult _)
  · cases h
    have hpush := s.kbd.extends_withQ (s.kbd.q.push ⟨id, data⟩)
    exact State.extends_withKbd (hpush.trans (Kbd.extends_setResult _ (.accepted true)))

/-! ### Refusals of the machine -/

theorem State.extends_refuseBoth (s : State) (r : RefusalReason) : s.Extends (s.refuseBoth r) :=
  ⟨s.kbd.extends_refuse r, s.pci.extends_refuse r⟩

theorem State.extends_refuseUnits (s : State) (u : Units) (r : RefusalReason) : s.Extends (s.refuseUnits u r) where
  kbd := by
    unfold State.refuseUnits
    split
    · exact s.kbd.extends_refuse r
    · exact .refl _
  pci := by
    unfold State.refuseUnits
    dsimp only
    split
    · exact s.pci.extends_refuse r
    · exact .refl _

/-! ### Every instruction, and every step -/

/-- No instruction changes a unit's parameters, clears its mark or loses a recorded event. -/
theorem exec_extends {i : Instr} {s t : State} (h : exec i s = .next t) : s.Extends t := by
  cases i with
  | feedStartE0 | feedStartE1 | feedStartKey | feedExt2A | feedExtB7 | feedExtError | feedExtKey
  | feedPauseSeq1On1D | feedPauseSeq1On9D | feedPauseSeq1Other | feedPausePressWaitOn45 | feedPausePressWaitOther
  | feedPauseReleaseWaitOnC5 | feedPauseReleaseWaitOther | feedPrtScPressWait1OnE0 | feedPrtScPressWait1Other
  | feedPrtScPressWait2On37 | feedPrtScPressWait2Other | feedPrtScReleaseWait1OnE0 | feedPrtScReleaseWait1Other
  | feedPrtScReleaseWait2OnAA | feedPrtScReleaseWait2Other | feedAwaitingOther | feedErrorAny =>
    exact State.onKbd_move_extends h
  | feedAwaitingAck => exact execFeedAwaitingAck_extends h
  | feedAwaitingResend => exact execFeedAwaitingResend_extends h
  | feedUnusedState code b => exact execFeedUnusedState_extends (b := b) h
  | feed => exact feedByte_extends h
  | enqueue => exact execEnqueue_extends h
  | tryDispatch => exact State.onKbd_extends (fun _ => Kbd.tryDispatch_extends) h
  | poll => exact execPoll_extends h
  | modApply c raw =>
    cases h
    exact State.extends_withKbd ((s.kbd.extends_modApply c raw).trans (Kbd.extends_setResult _ _))
  | reset =>
    cases h
    exact State.extends_withKbd s.kbd.extends_restart
  | pciRead w bus dev fn off =>
    cases h
    exact State.extends_withPci ((s.pci.extends_configRead bus dev fn off w).trans (Pci.extends_setResult _ _))
  | pciReadReservedWidth =>
    cases h
    exact State.extends_withPci (s.pci.extends_refuse _)
  | pciWrite32 bus dev fn off v =>
    cases h
    have haddr := s.pci.extends_writeAddr (addrEnc bus dev fn off)
    exact State.extends_withPci ((haddr.trans (Pci.extends_writeData _ v)).trans (Pci.extends_setResult _ _))
  | deviceExists bus dev fn =>
    cases h
    exact State.extends_withPci ((s.pci.extends_probe bus dev fn).trans (Pci.extends_setResult _ _))
  | enumerate max =>
    cases h
    exact State.extends_withPci ((s.pci.extends_enumerate max.toNat).trans (Pci.extends_setResult _ _))
  | reservedA | reservedB | reservedC | reservedD | reservedE | reservedF =>
    cases h
    exact s.extends_refuseBoth _

theorem step_extends {s t : State} (h : step s = .next t) : s.Extends t := by
  unfold step at h
  obtain ⟨-, hf⟩ | ⟨r, rest, u, e, -, hf⟩ | ⟨r, rest, i, -, -, -, hf⟩ := s.fetch_cases <;> rw [hf] at h
  · cases h
    exact .refl _
  · cases h
    exact (State.extends_refuseUnits _ u e).of_withRequests
  · exact (exec_extends h).of_withRequests

/-- Settles O59: the history part of `step_extends`, for each unit. -/
theorem historiesOnlyGrow : Obligations.HistoriesOnlyGrow := by
  intro s t h
  have hext : s.Extends t := step_extends h
  obtain ⟨newKbd, hkbd⟩ := hext.kbd.history
  obtain ⟨newPci, hpci⟩ := hext.pci.history
  exact ⟨⟨newKbd, hkbd.symm⟩, ⟨newPci, hpci.symm⟩⟩

end Sys2Proof.Machine
end

section
/-!
SUPPORT. The decode key of an FSM row (spec/30_encoding.md R107): its two fields, and the two round trips between a row
and its key.
-/

namespace Sys2Proof.Machine

@[simp] theorem keyState_fsmKey (c : StateCode) (b : Byte) : keyState (fsmKey c b) = c :=
  BitVec.extractLsb'_append_eq_left

@[simp] theorem keyByte_fsmKey (c : StateCode) (b : Byte) : keyByte (fsmKey c b) = b :=
  BitVec.extractLsb'_append_eq_right

theorem fsmKey_keyState_keyByte (k : Key) : fsmKey (keyState k) (keyByte k) = k := by
  unfold fsmKey keyState keyByte
  exact (BitVec.extractLsb'_append_extractLsb'_eq_extractLsb' rfl).trans BitVec.extractLsb'_eq_self

theorem decodeKey_fsmKey (p : KbdParams) (d : DecoderState) (b : Byte) :
    decodeKey p (fsmKey d.code b) = fsmRow p b d := by
  simp [decodeKey]

theorem decodeKey_unused (p : KbdParams) {c : StateCode} (h : DecoderState.ofCode c = none) (b : Byte) :
    decodeKey p (fsmKey c b) = .feedUnusedState c b := by
  simp [decodeKey, h]

/-- A row a state selects has that state and the byte in its key (R107). -/
theorem encode_fsmRow (p : KbdParams) (d : DecoderState) (b : Byte) : encode p (fsmRow p b d) = encodeKey d b := by
  cases d with
  | error => rfl
  | _ =>
    dsimp only [fsmRow]
    split_ifs <;> simp_all [encode]

/-- No bit of a decode key is lost in its row. -/
theorem encode_decodeKey (p : KbdParams) (k : Key) : encode p (decodeKey p k) = .key k := by
  rw [← fsmKey_keyState_keyByte k]
  cases hc : DecoderState.ofCode (keyState k) with
  | none => rw [decodeKey_unused p hc, encode]
  | some d => rw [DecoderState.code_of_ofCode hc, decodeKey_fsmKey, encode_fsmRow, encodeKey]

/-- The key of a well-formed row selects the row: its "any other byte" operand is none of the state's exact bytes. -/
theorem decodeKey_of_encode {p : KbdParams} {i : Instr} {k : Key} (hwf : i.wellFormed p = true)
    (hkey : encode p i = .key k) : decodeKey p k = i := by
  cases i with
  | feedUnusedState c b =>
    obtain rfl : fsmKey c b = k := by simpa [encode] using hkey
    have hc : 0xB ≤ c.toNat := by simpa [Instr.wellFormed, StateCode.isUnused] using hwf
    exact decodeKey_unused p ((DecoderState.ofCode_eq_none_iff c).2 hc) b
  | feedAwaitingResend =>
    cases hkey
    have hne : p.resendByte ≠ p.ackByte := Ne.symm (by simpa [Instr.wellFormed] using hwf)
    simp [decodeKey_fsmKey, fsmRow, hne]
  | reset | feed | enqueue | tryDispatch | pciRead | pciReadReservedWidth | pciWrite32 | deviceExists | enumerate
  | modApply | poll | reservedA | reservedB | reservedC | reservedD | reservedE | reservedF => cases hkey
  | _ =>
    cases hkey
    rw [decodeKey_fsmKey]
    simp_all [fsmRow, Instr.wellFormed]

end Sys2Proof.Machine
end

section
/-!
SUPPORT. What an instruction can do, said once (spec/30_encoding.md R117): an FSM row to the Keyboard Unit, any other
instruction of that unit through the row it feeds, an instruction of the PCI Unit, and a reserved code.
-/

namespace Sys2Proof.Machine

/-! ### The FSM rows -/

/-- What an FSM row can do to the unit (R142 to R164, R235 to R237, R106): move to a state that awaits no response,
take an ACK, transmit the head command again on a RESEND, or be refused in an unused state code. -/
inductive Kbd.RowEffect (k : Kbd) : Instr → Kbd → Prop where
  | move {i d d' e} : k.st = DecoderState.code d → d' ≠ .awaitingControllerResponse →
      RowEffect k i ((k.setSt d').emit e)
  | ack : k.st = DecoderState.code .awaitingControllerResponse → k.q.len ≠ 0#5 →
      RowEffect k .feedAwaitingAck ((Kbd.setSt { k with q := k.q.pop } .start).emit none)
  | resend {cmd} : k.st = DecoderState.code .awaitingControllerResponse → k.q.len ≠ 0#5 →
      k.q.buf[k.q.slot 0] = some cmd → RowEffect k .feedAwaitingResend ((k.transmit cmd).emit none)
  | unused {i} : DecoderState.ofCode k.st = none → RowEffect k i (k.refuse .badStateCode)

theorem execFeedAwaitingAck_next {s t : State} (h : execFeedAwaitingAck s = .next t) :
    s.kbd.st = DecoderState.code .awaitingControllerResponse ∧ s.kbd.q.len ≠ 0#5 ∧
    t = { s with kbd := (Kbd.setSt { s.kbd with q := s.kbd.q.pop } .start).emit none } := by
  obtain ⟨k, hk, rfl⟩ := State.onKbd_next h
  obtain ⟨hst, hk⟩ := Kbd.inState_next hk
  split at hk
  next k₁ hdeq =>
    obtain ⟨hlen, rfl⟩ := Kbd.dequeue_next hdeq
    cases hk
    exact ⟨hst, hlen, rfl⟩
  all_goals cases hk

theorem execFeedAwaitingResend_next {s t : State} (h : execFeedAwaitingResend s = .next t) :
    s.kbd.st = DecoderState.code .awaitingControllerResponse ∧ s.kbd.q.len ≠ 0#5 ∧
    ∃ cmd, s.kbd.q.buf[s.kbd.q.slot 0] = some cmd ∧ t = { s with kbd := (s.kbd.transmit cmd).emit none } := by
  obtain ⟨k, hk, rfl⟩ := State.onKbd_next h
  obtain ⟨hst, hk⟩ := Kbd.inState_next hk
  split at hk
  next k₁ hsent =>
    obtain ⟨cmd, hlen, hbuf, rfl⟩ := Kbd.transmitHead_next hsent
    cases hk
    exact ⟨hst, hlen, cmd, hbuf, rfl⟩
  all_goals cases hk

theorem execFeedUnusedState_next {s t : State} {c : StateCode} {b : Byte} (h : execFeedUnusedState c b s = .next t) :
    s.kbd.st = c ∧ DecoderState.ofCode c = none ∧ t = { s with kbd := s.kbd.refuse .badStateCode } := by
  unfold execFeedUnusedState at h
  split at h
  next hc =>
    obtain ⟨hst, hnone⟩ := hc
    cases h
    exact ⟨hst, hnone, rfl⟩
  next => cases h

/-- A plain move is a row's effect, and the row's key holds the state it moves from. -/
theorem State.onKbd_move_row {s t : State} {i : Instr} {key : Key} {b : Byte} {d d' : DecoderState} {e : Option Byte}
    (hd' : d' ≠ .awaitingControllerResponse) (hkey : encodeKey d b = .key key)
    (h : s.onKbd (s.kbd.move d d' e) = .next t) :
    keyState key = s.kbd.st ∧ ∃ k, s.kbd.RowEffect i k ∧ t = { s with kbd := k } := by
  obtain ⟨k, hk, rfl⟩ := State.onKbd_next h
  obtain ⟨hst, rfl⟩ := Kbd.move_next hk
  cases hkey
  exact ⟨by rw [keyState_fsmKey, hst], _, .move hst hd', rfl⟩

/-- An FSM row that completes was selected by `st`, and did what a row can do. -/
theorem exec_row {i : Instr} {p : KbdParams} {key : Key} {s t : State} (hkey : encode p i = .key key)
    (h : exec i s = .next t) :
    keyState key = s.kbd.st ∧ ∃ k, s.kbd.RowEffect i k ∧ t = { s with kbd := k } := by
  cases i with
  | feedStartE0 | feedStartE1 | feedStartKey | feedExt2A | feedExtB7 | feedExtError | feedExtKey
  | feedPauseSeq1On1D | feedPauseSeq1On9D | feedPauseSeq1Other | feedPausePressWaitOn45 | feedPausePressWaitOther
  | feedPauseReleaseWaitOnC5 | feedPauseReleaseWaitOther | feedPrtScPressWait1OnE0 | feedPrtScPressWait1Other
  | feedPrtScPressWait2On37 | feedPrtScPressWait2Other | feedPrtScReleaseWait1OnE0 | feedPrtScReleaseWait1Other
  | feedPrtScReleaseWait2OnAA | feedPrtScReleaseWait2Other | feedAwaitingOther | feedErrorAny =>
    exact State.onKbd_move_row (by decide) hkey h
  | feedAwaitingAck =>
    obtain ⟨hst, hlen, rfl⟩ := execFeedAwaitingAck_next h
    cases hkey
    exact ⟨by rw [keyState_fsmKey, hst], _, .ack hst hlen, rfl⟩
  | feedAwaitingResend =>
    obtain ⟨hst, hlen, cmd, hbuf, rfl⟩ := execFeedAwaitingResend_next h
    cases hkey
    exact ⟨by rw [keyState_fsmKey, hst], _, .resend hst hlen hbuf, rfl⟩
  | feedUnusedState c b =>
    obtain ⟨hst, hnone, rfl⟩ := execFeedUnusedState_next (b := b) h
    cases hkey
    exact ⟨by rw [keyState_fsmKey, hst], _, .unused (hst ▸ hnone), rfl⟩
  | reset | feed | enqueue | tryDispatch | pciRead | pciReadReservedWidth | pciWrite32 | deviceExists | enumerate
  | modApply | poll | reservedA | reservedB | reservedC | reservedD | reservedE | reservedF => cases hkey

/-! ### FEED -/

/-- FEED runs the row its decode key selects (R107, R140). -/
theorem feedByte_eq_exec (b : Byte) (s : State) :
    feedByte b s = exec (decodeKey s.kbd.params (fsmKey s.kbd.st b)) s := by
  unfold feedByte
  cases hc : DecoderState.ofCode s.kbd.st with
  | none => rw [decodeKey_unused _ hc]; rfl
  | some d =>
    rw [DecoderState.code_of_ofCode hc, decodeKey_fsmKey]
    cases d with
    | error => rfl
    | _ =>
      dsimp only [fsmRow]
      split_ifs <;> rfl

theorem feedByte_next {b : Byte} {s t : State} (h : feedByte b s = .next t) :
    ∃ k, s.kbd.RowEffect (decodeKey s.kbd.params (fsmKey s.kbd.st b)) k ∧ t = { s with kbd := k } := by
  rw [feedByte_eq_exec] at h
  exact (exec_row (encode_decodeKey s.kbd.params _) h).2

/-- A key selects the ACK row by ACK_BYTE only (R235). -/
theorem eq_ackByte_of_decodeKey {p : KbdParams} {c : StateCode} {b : Byte}
    (h : decodeKey p (fsmKey c b) = .feedAwaitingAck) : b = p.ackByte := by
  have hkey : encode p .feedAwaitingAck = .key (fsmKey c b) := h ▸ encode_decodeKey p (fsmKey c b)
  simpa using congrArg keyByte (Code.key.inj hkey).symm

/-- A key selects the RESEND row by RESEND_BYTE only (R236). -/
theorem eq_resendByte_of_decodeKey {p : KbdParams} {c : StateCode} {b : Byte}
    (h : decodeKey p (fsmKey c b) = .feedAwaitingResend) : b = p.resendByte := by
  have hkey : encode p .feedAwaitingResend = .key (fsmKey c b) := h ▸ encode_decodeKey p (fsmKey c b)
  simpa using congrArg keyByte (Code.key.inj hkey).symm

/-! ### Every instruction -/

/-- What an instruction that is not the PCI Unit's can do to the Keyboard Unit: an FSM row that `st` selects, FEED
through the row of its key (R140), RESET (R360), ENQUEUE on a full and on any other queue (R230, R231), the dispatch
gate (R232), MOD_APPLY (R200), and POLL refused (R314, R106), with no byte waiting, and with one (R310). -/
inductive Kbd.Effect (k : Kbd) : Instr → Kbd → Prop where
  | row {i key k'} : encode k.params i = .key key → keyState key = k.st → k.RowEffect i k' → Effect k i k'
  | feed {b k'} : k.RowEffect (decodeKey k.params (fsmKey k.st b)) k' → Effect k (.feed b) k'
  | reset : Effect k .reset k.restart
  | enqueueFull {id data} : k.q.len = 16#5 → Effect k (.enqueue id data) (k.setResult (.accepted false))
  | enqueue {id data} : k.q.len ≠ 16#5 →
      Effect k (.enqueue id data) (Kbd.setResult { k with q := k.q.push ⟨id, data⟩ } (.accepted true))
  | tryDispatch {k'} : k.tryDispatch = .next k' → Effect k .tryDispatch k'
  | modApply {c raw} : Effect k (.modApply c raw)
      ((k.modApply c raw).2.setResult (.adjusted (k.modApply c raw).1 (k.modApply c raw).2.flags))
  | pollRefused {r} : Effect k .poll (k.refuse r)
  | pollIdle : Effect k .poll ((k.portRead Config.kbdStatusPort).2.setResult .nothing)
  | pollByte {k₁ b k'} : (k.portRead Config.kbdStatusPort).2.portRead Config.kbdDataPort = (b, k₁) →
      k₁.RowEffect (decodeKey k.params (fsmKey k.st b)) k' → Effect k .poll (k'.deliver b)

/-- What an instruction of the PCI Unit can do to it (R261, R118, R267, R266, R290). -/
inductive Pci.Effect (u : Pci) : Instr → Pci → Prop where
  | read {w bus dev fn off} : Effect u (.pciRead w bus dev fn off)
      ((u.configRead bus dev fn off w).2.setResult (.value (u.configRead bus dev fn off w).1))
  | readReservedWidth : Effect u .pciReadReservedWidth (u.refuse .reservedOp)
  | write {bus dev fn off v} : Effect u (.pciWrite32 bus dev fn off v)
      (((u.writeAddr (addrEnc bus dev fn off)).writeData v).setResult .nothing)
  | deviceExists {bus dev fn} : Effect u (.deviceExists bus dev fn)
      ((u.probe bus dev fn).2.setResult (.present (u.probe bus dev fn).1))
  | enumerate {max} : Effect u (.enumerate max) ((u.enumerate max.toNat).pci.setResult
      (.entries (u.enumerate max.toNat).count (u.enumerate max.toNat).found.reverse))

theorem execPoll_next {s t : State} (h : execPoll s = .next t) :
    ∃ k, s.kbd.Effect .poll k ∧ t = { s with kbd := k } := by
  simp only [execPoll] at h
  split_ifs at h
  · cases h; exact ⟨_, .pollRefused, rfl⟩
  · cases h; exact ⟨_, .pollRefused, rfl⟩
  · simp only [pollByte] at h
    split at h
    next t₁ hfeed =>
      obtain ⟨k, hrow, rfl⟩ := feedByte_next hfeed
      cases h
      exact ⟨_, .pollByte rfl hrow, rfl⟩
    all_goals cases h
  · cases h; exact ⟨_, .pollIdle, rfl⟩

theorem execEnqueue_next {id data : Byte} {s t : State} (h : execEnqueue id data s = .next t) :
    ∃ k, s.kbd.Effect (.enqueue id data) k ∧ t = { s with kbd := k } := by
  unfold execEnqueue at h
  split at h
  next hfull => cases h; exact ⟨_, .enqueueFull hfull, rfl⟩
  next hfree => cases h; exact ⟨_, .enqueue hfree, rfl⟩

/-- Everything an instruction can do: it changes the Keyboard Unit only, the PCI Unit only, or it is a reserved code,
which both units refuse. -/
theorem exec_cases {i : Instr} {s t : State} (h : exec i s = .next t) :
    (∃ k, s.kbd.Effect i k ∧ t = { s with kbd := k }) ∨ (∃ u, s.pci.Effect i u ∧ t = { s with pci := u }) ∨
    (unitsOf i = ⟨true, true⟩ ∧ t = s.refuseBoth .reservedOp) := by
  cases hcode : encode s.kbd.params i with
  | key key =>
    obtain ⟨hst, k, hrow, ht⟩ := exec_row hcode h
    exact .inl ⟨k, .row hcode hst hrow, ht⟩
  | request w =>
    cases i with
    | feed b =>
      obtain ⟨k, hrow, ht⟩ := feedByte_next h
      exact .inl ⟨k, .feed hrow, ht⟩
    | reset => cases h; exact .inl ⟨_, .reset, rfl⟩
    | enqueue => exact .inl (execEnqueue_next h)
    | tryDispatch =>
      obtain ⟨k, hk, ht⟩ := State.onKbd_next h
      exact .inl ⟨k, .tryDispatch hk, ht⟩
    | modApply => cases h; exact .inl ⟨_, .modApply, rfl⟩
    | poll => exact .inl (execPoll_next h)
    | pciRead => cases h; exact .inr (.inl ⟨_, .read, rfl⟩)
    | pciReadReservedWidth => cases h; exact .inr (.inl ⟨_, .readReservedWidth, rfl⟩)
    | pciWrite32 => cases h; exact .inr (.inl ⟨_, .write, rfl⟩)
    | deviceExists => cases h; exact .inr (.inl ⟨_, .deviceExists, rfl⟩)
    | enumerate => cases h; exact .inr (.inl ⟨_, .enumerate, rfl⟩)
    | reservedA | reservedB | reservedC | reservedD | reservedE | reservedF =>
      cases h; exact .inr (.inr ⟨rfl, rfl⟩)
    | _ => cases hcode

end Sys2Proof.Machine
end

section
/-!
SUPPORT. The circular FIFO as a queue (spec/10_state.md R40, R41, R44): what ENQUEUE and DEQUEUE do to the queued
commands, and that both keep the FIFO well formed.
-/

namespace Sys2Proof.Machine

/-! ### Slots -/

theorem Fifo.slot_inj {q : Fifo} {i j : Nat} (hi : i < 16) (hj : j < 16) : q.slot i = q.slot j ↔ i = j := by
  rw [Fin.ext_iff, Fifo.slot_val, Fifo.slot_val]
  omega

/-- The head's slot is the one `start` names (R40). -/
theorem Fifo.buf_slot_zero (q : Fifo) : q.buf[q.slot 0] = q.buf[q.start.toNat]'(q.start.isLt) := by
  simp [Nat.mod_eq_of_lt q.start.isLt]

/-- After a DEQUEUE every command is one place nearer to the head. -/
theorem Fifo.pop_slot (q : Fifo) (i : Nat) : q.pop.slot i = q.slot (i + 1) := by
  rw [Fin.ext_iff, Fifo.slot_val, Fifo.slot_val, Fifo.pop_start, BitVec.toNat_add]
  simp only [BitVec.toNat_ofNat]
  omega

/-- The content of the slot at place `i` of the queue, the head at place 0 (R40). -/
def Fifo.commandAt (q : Fifo) (i : Nat) : Option ControllerCommand := q.buf[q.slot i]

theorem Fifo.queued_eq (q : Fifo) : q.queued = (List.range q.len.toNat).filterMap q.commandAt := rfl

theorem Fifo.commandAt_push_of_lt {q : Fifo} {i : Nat} (c : ControllerCommand) (hi : i < q.len.toNat)
    (hlen : q.len.toNat < 16) : (q.push c).commandAt i = q.commandAt i := by
  have hslot : q.slot q.len.toNat ≠ q.slot i := fun h => hi.ne' ((Fifo.slot_inj hlen (hi.trans hlen)).1 h)
  exact (q.push_getElem c (q.slot i)).trans (if_neg hslot)

theorem Fifo.commandAt_push_len (q : Fifo) (c : ControllerCommand) : (q.push c).commandAt q.len.toNat = some c :=
  (q.push_getElem c (q.slot q.len.toNat)).trans (if_pos rfl)

theorem Fifo.commandAt_pop (q : Fifo) (i : Nat) : q.pop.commandAt i = q.commandAt (i + 1) := by
  simp only [Fifo.commandAt, Fifo.pop_slot, Fifo.pop_buf]

/-! ### The number of queued commands -/

theorem Fifo.len_toNat_pos {q : Fifo} (h : q.len ≠ 0#5) : 0 < q.len.toNat := by
  bv_omega

theorem Fifo.wf.len_lt {q : Fifo} (h : q.wf) (hne : q.len ≠ 16#5) : q.len.toNat < 16 := by
  have hle : q.len.toNat ≤ 16 := h.1
  bv_omega

theorem Fifo.push_len_toNat {q : Fifo} (c : ControllerCommand) (h : q.len.toNat < 16) :
    (q.push c).len.toNat = q.len.toNat + 1 := by
  rw [Fifo.push_len]
  bv_omega

theorem Fifo.pop_len_toNat {q : Fifo} (h : q.len ≠ 0#5) : q.pop.len.toNat = q.len.toNat - 1 := by
  rw [Fifo.pop_len]
  bv_omega

/-! ### Well-formedness -/

theorem Fifo.wf_iff {q : Fifo} :
    q.wf ↔ q.len.toNat ≤ 16 ∧ ∀ i, i < q.len.toNat → (q.commandAt i).isSome = true :=
  ⟨fun ⟨hle, h⟩ => ⟨hle, fun i hi => h ⟨i, hi.trans_le hle⟩ hi⟩, fun ⟨hle, h⟩ => ⟨hle, fun i hi => h i hi⟩⟩

theorem Fifo.wf_empty : Fifo.empty.wf := by decide

theorem Fifo.wf.push {q : Fifo} (h : q.wf) (c : ControllerCommand) (hlen : q.len.toNat < 16) : (q.push c).wf := by
  obtain ⟨-, hsome⟩ := Fifo.wf_iff.1 h
  refine Fifo.wf_iff.2 ?_
  rw [Fifo.push_len_toNat c hlen]
  refine ⟨hlen, fun i hi => ?_⟩
  obtain hlt | rfl := Nat.lt_succ_iff_lt_or_eq.1 hi
  · rw [Fifo.commandAt_push_of_lt c hlt hlen]
    exact hsome i hlt
  · rw [Fifo.commandAt_push_len]
    rfl

theorem Fifo.wf.pop {q : Fifo} (h : q.wf) (hne : q.len ≠ 0#5) : q.pop.wf := by
  obtain ⟨hle, hsome⟩ := Fifo.wf_iff.1 h
  refine Fifo.wf_iff.2 ?_
  rw [Fifo.pop_len_toNat hne]
  refine ⟨by omega, fun i hi => ?_⟩
  rw [Fifo.commandAt_pop]
  exact hsome (i + 1) (by omega)

/-! ### The queued commands -/

theorem Fifo.queued_length {q : Fifo} (h : q.wf) : q.queued.length = q.len.toNat := by
  have hall : ∀ i ∈ List.range q.len.toNat, (q.commandAt i).isSome = true :=
    fun i hi => (Fifo.wf_iff.1 h).2 i (List.mem_range.1 hi)
  rw [Fifo.queued_eq, List.length_filterMap_eq_countP, List.countP_eq_length.2 hall, List.length_range]

/-- An ENQUEUE appends its command (R230). -/
theorem Fifo.queued_push {q : Fifo} (c : ControllerCommand) (hlen : q.len.toNat < 16) :
    (q.push c).queued = q.queued ++ [c] := by
  have hold : (List.range q.len.toNat).filterMap (q.push c).commandAt = q.queued :=
    List.filterMap_congr fun i hi => Fifo.commandAt_push_of_lt c (List.mem_range.1 hi) hlen
  rw [Fifo.queued_eq, Fifo.push_len_toNat c hlen, List.range_succ, List.filterMap_append, hold,
    List.filterMap_cons_some (Fifo.commandAt_push_len q c), List.filterMap_nil]

/-- A DEQUEUE removes the first command (R235). -/
theorem Fifo.queued_eq_cons_pop {q : Fifo} (h : q.wf) (hne : q.len ≠ 0#5) : ∃ c, q.queued = c :: q.pop.queued := by
  have hpos : 0 < q.len.toNat := Fifo.len_toNat_pos hne
  obtain ⟨c, hc⟩ := Option.isSome_iff_exists.1 ((Fifo.wf_iff.1 h).2 0 hpos)
  have hlen : q.len.toNat = q.pop.len.toNat + 1 := by
    rw [Fifo.pop_len_toNat hne]
    omega
  have hrest : q.commandAt ∘ Nat.succ = q.pop.commandAt := funext fun i => (q.commandAt_pop i).symm
  refine ⟨c, ?_⟩
  rw [Fifo.queued_eq, hlen, List.range_succ_eq_map, List.filterMap_cons_some hc, List.filterMap_map, hrest,
    Fifo.queued_eq]

/-! ### The operations of the queue -/

@[simp] theorem Kbd.transmit_q (k : Kbd) (cmd : ControllerCommand) : (k.transmit cmd).q = k.q := by
  rw [Kbd.transmit_eq]

/-- No outcome of the dispatch gate touches the FIFO (R232). -/
theorem Kbd.tryDispatch_q {k k' : Kbd} (h : k.tryDispatch = .next k') : k'.q = k.q := by
  obtain ⟨-, rfl⟩ | ⟨cmd, -, -, -, rfl⟩ | ⟨-, -, rfl⟩ := Kbd.tryDispatch_next h
  · rfl
  · exact k.transmit_q cmd
  · rfl

/-- Settles O24: each operation changes the FIFO by `push`, by `pop` or not at all, and the queued commands follow. -/
theorem fifoRefinesQueue : Obligations.FifoRefinesQueue := by
  intro s t hwf
  refine ⟨fun id data h => ?enqueue, fun h => ?ack, fun h => ?resend, fun b h => ?other, fun h => ?dispatch⟩
  case enqueue =>
    obtain ⟨k, heff, rfl⟩ := execEnqueue_next h
    rw [Fifo.queued_length hwf]
    cases heff with
    | enqueueFull hfull => exact .inl ⟨congrArg BitVec.toNat hfull, rfl, rfl⟩
    | enqueue hfree => exact .inr ⟨hwf.len_lt hfree, Fifo.queued_push _ (hwf.len_lt hfree), rfl⟩
    | row hcode => cases hcode
  case ack =>
    obtain ⟨-, hne, rfl⟩ := execFeedAwaitingAck_next h
    exact Fifo.queued_eq_cons_pop hwf hne
  case resend =>
    obtain ⟨-, -, cmd, -, rfl⟩ := execFeedAwaitingResend_next h
    exact congrArg Fifo.queued (s.kbd.transmit_q cmd)
  case other =>
    obtain ⟨k, hk, rfl⟩ := State.onKbd_next h
    obtain ⟨-, rfl⟩ := Kbd.move_next hk
    rfl
  case dispatch =>
    obtain ⟨k, hk, rfl⟩ := State.onKbd_next h
    exact congrArg Fifo.queued (Kbd.tryDispatch_q hk)

end Sys2Proof.Machine
end

section
/-!
SUPPORT. The parameters at reset are admissible (spec/00_scope.md R8), whatever the free values are.
-/

namespace Sys2Proof.Config

theorem keyCodes_nodup : keyCodes.toList.Nodup := by
  unfold keyCodes
  split
  · assumption
  · decide

theorem kbdParams_keyCodes : kbdParams.keyCodes = keyCodes.toList := by
  apply List.ext_getElem
  · simp [KbdParams.keyCodes]
  · intro i hi _
    have hlt : i < 9 := hi
    interval_cases i <;> simp [KbdParams.keyCodes, kbdParams]

/-- The free key codes stand where they are distinct only (log 11). -/
theorem kbdParams_wf : kbdParams.wf = true := by
  have hnodup : kbdParams.keyCodes.Nodup := kbdParams_keyCodes ▸ keyCodes_nodup
  simp only [KbdParams.wf, hnodup]
  rfl

end Sys2Proof.Config
end

section
/-!
SUPPORT. The machine's invariant (spec/10_state.md R31, R36, R41, R43, R44; spec/20_memory.md R71; spec/30_encoding.md
R112): each shared operation keeps it, hence every instruction and every step, and it holds after reset.
-/

namespace Sys2Proof.Machine

/-! ### KeyFlags -/

/-- The key's own update writes one of the bits 1 to 9, or nothing (R202, R203). -/
theorem keyFlagUpdate_cases (p : KbdParams) (c : Byte) (pressed : Bool) (f : BitVec 16) :
    keyFlagUpdate p c pressed f = f ∨ ∃ i v, 1 ≤ i ∧ i < 10 ∧ keyFlagUpdate p c pressed f = setFlag f i v := by
  unfold keyFlagUpdate
  split_ifs
  · exact .inr ⟨flagLShift, _, by decide, by decide, rfl⟩
  · exact .inr ⟨flagRShift, _, by decide, by decide, rfl⟩
  · exact .inr ⟨flagLCtrl, _, by decide, by decide, rfl⟩
  · exact .inr ⟨flagRCtrl, _, by decide, by decide, rfl⟩
  · exact .inr ⟨flagLAlt, _, by decide, by decide, rfl⟩
  · exact .inr ⟨flagRAlt, _, by decide, by decide, rfl⟩
  · exact .inr ⟨flagCaps, _, by decide, by decide, rfl⟩
  · exact .inr ⟨flagNum, _, by decide, by decide, rfl⟩
  · exact .inr ⟨flagScroll, _, by decide, by decide, rfl⟩
  · exact .inl rfl

theorem flagsDefined_setFlag {f : BitVec 16} {i : Nat} {v : Bool} (hi : i < 10) (h : flagsDefined f) :
    flagsDefined (setFlag f i v) := by
  rw [flagsDefined, ← h]
  apply BitVec.eq_of_getLsbD_eq
  intro j hj
  rw [BitVec.getLsbD_extractLsb', BitVec.getLsbD_extractLsb', setFlag_getLsbD _ _ _ _ (by omega), if_neg (by omega)]

theorem flagsDefined_updateFlags {p : KbdParams} {c raw : Byte} {f : BitVec 16} (h : flagsDefined f) :
    flagsDefined (updateFlags p c raw f) := by
  have hpressed : flagsDefined (setFlag f flagPressed (isPress raw)) := flagsDefined_setFlag (by decide) h
  unfold updateFlags
  obtain heq | ⟨i, v, -, hi, heq⟩ := keyFlagUpdate_cases p c (isPress raw) (setFlag f flagPressed (isPress raw)) <;>
    rw [heq]
  · exact hpressed
  · exact flagsDefined_setFlag hi hpressed

/-- PRESSED holds after MOD_APPLY what bit 7 of the raw byte says (R201). -/
theorem updateFlags_pressed (p : KbdParams) (c raw : Byte) (f : BitVec 16) :
    (updateFlags p c raw f).getLsbD flagPressed = isPress raw := by
  have hpressed : (setFlag f flagPressed (isPress raw)).getLsbD flagPressed = isPress raw := by
    rw [setFlag_getLsbD _ _ _ _ (by decide), if_pos rfl]
  unfold updateFlags
  obtain heq | ⟨i, v, hpos, hi, heq⟩ := keyFlagUpdate_cases p c (isPress raw) (setFlag f flagPressed (isPress raw)) <;>
    rw [heq]
  · exact hpressed
  · rw [setFlag_getLsbD _ _ _ _ (by omega), if_neg (by unfold flagPressed; omega), hpressed]

/-! ### The Keyboard Unit -/

theorem Kbd.legalState_setSt (k : Kbd) (d : DecoderState) : (k.setSt d).legalState := by
  simp [Kbd.legalState]

theorem Kbd.Inv.setResult {k : Kbd} (h : k.Inv) (r : OpResult) : (k.setResult r).Inv := { h with }

theorem Kbd.Inv.refuse {k : Kbd} (h : k.Inv) (r : RefusalReason) : (k.refuse r).Inv := { h with }

theorem Kbd.Inv.setSt {k : Kbd} (h : k.Inv) {d : DecoderState}
    (hd : d = .awaitingControllerResponse → k.q.len ≠ 0#5) : (k.setSt d).Inv :=
  { h with
    legal := k.legalState_setSt d
    inFlight := fun hst => hd (DecoderState.code_injective hst) }

theorem Kbd.Inv.record {k : Kbd} (h : k.Inv) {e : Event} (he : e.ofKbd) : (k.record e).Inv :=
  { h with traffic := List.forall_mem_cons.2 ⟨he, h.traffic⟩ }

theorem Kbd.Inv.emit {k : Kbd} (h : k.Inv) (e : Option Byte) : (k.emit e).Inv :=
  (h.record (e := .emit e) trivial).setResult _

theorem Kbd.Inv.portRead {k : Kbd} (h : k.Inv) {port : Port}
    (hport : port = Config.kbdDataPort ∨ port = Config.kbdStatusPort) : (k.portRead port).2.Inv :=
  { h with traffic := List.forall_mem_cons.2 ⟨hport, h.traffic⟩ }

theorem Kbd.Inv.transmit {k : Kbd} (h : k.Inv) (cmd : ControllerCommand) : (k.transmit cmd).Inv := by
  rw [Kbd.transmit_eq]
  refine { h with traffic := fun e he => ?_ }
  obtain hnew | hold := List.mem_append.1 he
  · obtain ⟨b, -, rfl⟩ := List.mem_map.1 (List.mem_reverse.1 hnew)
    rfl
  · exact h.traffic e hold

theorem Kbd.Inv.push {k : Kbd} (h : k.Inv) (cmd : ControllerCommand) (hfree : k.q.len ≠ 16#5) :
    Kbd.Inv { k with q := k.q.push cmd } := by
  have hlt : k.q.len.toNat < 16 := h.fifo.len_lt hfree
  refine { h with fifo := h.fifo.push cmd hlt, inFlight := fun _ hzero => ?_ }
  have hlen : (k.q.push cmd).len.toNat = k.q.len.toNat + 1 := Fifo.push_len_toNat cmd hlt
  rw [hzero] at hlen
  simp at hlen

/-- The ACK leaves the awaiting state with its command, so that none need be in flight (R43). -/
theorem Kbd.Inv.pop_start {k : Kbd} (h : k.Inv) (hne : k.q.len ≠ 0#5) :
    (Kbd.setSt { k with q := k.q.pop } .start).Inv :=
  { h with
    legal := Kbd.legalState_setSt _ _
    fifo := h.fifo.pop hne
    inFlight := fun hst => nomatch DecoderState.code_injective (d := .start) hst }

theorem Kbd.Inv.modApply {k : Kbd} (h : k.Inv) (c raw : Byte) : (k.modApply c raw).2.Inv :=
  { h with flags := flagsDefined_updateFlags h.flags }

theorem Kbd.Inv.restart {k : Kbd} (h : k.Inv) : k.restart.Inv :=
  { h with
    legal := by simp [Kbd.legalState]
    fifo := Fifo.wf_empty
    inFlight := fun hst => nomatch DecoderState.code_injective (d := .start) hst
    flags := by
      rw [Kbd.restart_flags]
      decide }

/-- A callback is made for a press only, with the flags after MOD_APPLY (R313). -/
theorem Kbd.Inv.deliver {k : Kbd} (h : k.Inv) (b : Byte) : (k.deliver b).Inv := by
  unfold Kbd.deliver
  split
  next c _ =>
    have hmod : (k.modApply c b).2.Inv := h.modApply c b
    dsimp only
    split
    next hpressed =>
      have hpress : isPress b = true := (updateFlags_pressed k.params c b k.flags).symm.trans hpressed
      exact (hmod.record (e := .callback _ b _) ⟨hpress, hpressed, hmod.flags⟩).setResult _
    next => exact hmod.setResult _
  next => exact h.setResult _

theorem Kbd.Inv.tryDispatch {k k' : Kbd} (h : k.Inv) (hk : k.tryDispatch = .next k') : k'.Inv := by
  obtain ⟨-, rfl⟩ | ⟨cmd, -, hlen, -, rfl⟩ | ⟨-, -, rfl⟩ := Kbd.tryDispatch_next hk
  · exact h.refuse _
  · refine Kbd.Inv.setResult (Kbd.Inv.setSt (h.transmit cmd) fun _ => ?_) _
    rwa [Kbd.transmit_q]
  · exact h.setResult _

theorem Kbd.Inv.rowEffect {k k' : Kbd} {i : Instr} (h : k.Inv) (hrow : k.RowEffect i k') : k'.Inv := by
  cases hrow with
  | move _ hd' => exact (h.setSt fun hd => absurd hd hd').emit _
  | ack _ hlen => exact (h.pop_start hlen).emit _
  | resend => exact (h.transmit _).emit _
  | unused => exact h.refuse _

theorem Kbd.Inv.effect {k k' : Kbd} {i : Instr} (h : k.Inv) (heff : k.Effect i k') : k'.Inv := by
  cases heff with
  | row _ _ hrow => exact h.rowEffect hrow
  | feed hrow => exact h.rowEffect hrow
  | reset => exact h.restart
  | enqueueFull => exact h.setResult _
  | enqueue hfree => exact (h.push _ hfree).setResult _
  | tryDispatch hk => exact h.tryDispatch hk
  | modApply => exact (h.modApply _ _).setResult _
  | pollRefused => exact h.refuse _
  | pollIdle => exact (h.portRead (.inr rfl)).setResult _
  | pollByte hread hrow =>
    have hdata := (h.portRead (.inr rfl)).portRead (port := Config.kbdDataPort) (.inl rfl)
    rw [hread] at hdata
    exact (hdata.rowEffect hrow).deliver _

/-! ### The PCI Unit -/

/-- The address word has bit 31 set and bits 30 to 24 and 1 to 0 clear, whatever the operands (R110, R112). -/
theorem addressWord_addrEnc (bus : BitVec 8) (dev : BitVec 5) (fn : BitVec 3) (off : Byte) :
    addressWord (addrEnc bus dev fn off) := by
  rw [addrEnc_eq_append]
  constructor
  · iterate 4 rw [BitVec.extractLsb'_append_eq_of_le (by decide)]
    exact BitVec.extractLsb'_append_eq_left
  · exact BitVec.extractLsb'_append_eq_right

theorem Pci.Inv.setResult {u : Pci} (h : u.Inv) (r : OpResult) : (u.setResult r).Inv := { h with }

theorem Pci.Inv.refuse {u : Pci} (h : u.Inv) (r : RefusalReason) : (u.refuse r).Inv := { h with }

theorem Pci.Inv.writeAddr {u : Pci} (h : u.Inv) {a : Dword} (ha : addressWord a) : (u.writeAddr a).Inv :=
  { h with traffic := List.forall_mem_cons.2 ⟨.inl ⟨rfl, ha⟩, h.traffic⟩ }

theorem Pci.Inv.writeData {u : Pci} (h : u.Inv) (v : Dword) : (u.writeData v).Inv :=
  { h with traffic := List.forall_mem_cons.2 ⟨.inr rfl, h.traffic⟩ }

theorem Pci.Inv.readData {u : Pci} (h : u.Inv) : u.readData.2.Inv :=
  { h with traffic := List.forall_mem_cons.2 ⟨rfl, h.traffic⟩ }

theorem Pci.Inv.configRead {u : Pci} (h : u.Inv) (bus : BitVec 8) (dev : BitVec 5) (fn : BitVec 3) (off : Byte)
    (w : Width) : (u.configRead bus dev fn off w).2.Inv :=
  (h.writeAddr (addressWord_addrEnc bus dev fn off)).readData

/-! ### The scan keeps what a configuration read keeps (R290) -/

/-- A property of the PCI Unit that no configuration read breaks. -/
def Pci.KeptByConfigRead (P : Pci → Prop) : Prop :=
  ∀ (u : Pci) (bus : BitVec 8) (dev : BitVec 5) (fn : BitVec 3) (off : Byte) (w : Width),
    P u → P (u.configRead bus dev fn off w).2

section Scan

variable {P : Pci → Prop} (hP : Pci.KeptByConfigRead P)
include hP

theorem scanFunctions_keeps (max : Nat) (bus : BitVec 8) (dev : BitVec 5) (fns : List (BitVec 3)) (c : Scan)
    (h : P c.pci) : P (scanFunctions max bus dev fns c).pci := by
  induction fns generalizing c with
  | nil => exact h
  | cons fn fns ih =>
    have hprobe : P (c.pci.probe bus dev fn).2 := hP c.pci bus dev fn 0x00#8 .w16 h
    simp only [scanFunctions]
    split_ifs
    · simpa using hprobe
    · exact ih _ (by simpa using hprobe)
    · exact ih _ hprobe

theorem scanDevice_keeps (max : Nat) (bus : BitVec 8) (dev : BitVec 5) (c : Scan) (h : P c.pci) :
    P (scanDevice max bus dev c).pci := by
  have hprobe : P (c.pci.probe bus dev 0#3).2 := hP c.pci bus dev 0#3 0x00#8 .w16 h
  have hheader := hP _ bus dev 0#3 0x0E#8 .w8 hprobe
  simp only [scanDevice, Scan.record_pci]
  split_ifs
  · simpa using hprobe
  · exact scanFunctions_keeps hP max bus dev upperFunctions _ hheader
  · exact hheader
  · exact hprobe

theorem scanDevices_keeps (max : Nat) (bus : BitVec 8) (devs : List (BitVec 5)) (c : Scan) (h : P c.pci) :
    P (scanDevices max bus devs c).pci := by
  induction devs generalizing c with
  | nil => exact h
  | cons dev devs ih =>
    have hdevice := scanDevice_keeps hP max bus dev c h
    simp only [scanDevices]
    split_ifs
    · exact hdevice
    · exact ih _ hdevice

theorem scanBuses_keeps (max : Nat) (buses : List (BitVec 8)) (c : Scan) (h : P c.pci) :
    P (scanBuses max buses c).pci := by
  induction buses generalizing c with
  | nil => exact h
  | cons bus buses ih =>
    have hbus := scanDevices_keeps hP max bus allDevices c h
    simp only [scanBuses]
    split_ifs
    · exact hbus
    · exact ih _ hbus

theorem Pci.enumerate_keeps (u : Pci) (max : Nat) (h : P u) : P (u.enumerate max).pci :=
  scanBuses_keeps hP max allBuses { stopped := false, count := 0, found := [], pci := u } h

end Scan

theorem Pci.Inv.effect {u u' : Pci} {i : Instr} (h : u.Inv) (heff : u.Effect i u') : u'.Inv := by
  cases heff with
  | read => exact (h.configRead _ _ _ _ _).setResult _
  | readReservedWidth => exact h.refuse _
  | write => exact ((h.writeAddr (addressWord_addrEnc _ _ _ _)).writeData _).setResult _
  | deviceExists => exact (h.configRead _ _ _ 0x00#8 .w16).setResult _
  | enumerate =>
    exact (u.enumerate_keeps (fun _ _ _ _ _ _ hu => hu.configRead _ _ _ _ _) _ h).setResult _

/-! ### Every instruction, and every step -/

theorem State.Inv.refuseUnits {s : State} (h : s.Inv) (u : Units) (r : RefusalReason) : (s.refuseUnits u r).Inv where
  kbd := by
    unfold State.refuseUnits
    split
    · exact h.kbd.refuse r
    · exact h.kbd
  pci := by
    unfold State.refuseUnits
    dsimp only
    split
    · exact h.pci.refuse r
    · exact h.pci

theorem State.Inv.exec {i : Instr} {s t : State} (h : s.Inv) (hexec : exec i s = .next t) : t.Inv := by
  obtain ⟨k, heff, rfl⟩ | ⟨u, heff, rfl⟩ | ⟨-, rfl⟩ := exec_cases hexec
  · exact ⟨h.kbd.effect heff, h.pci⟩
  · exact ⟨h.kbd, h.pci.effect heff⟩
  · exact ⟨h.kbd.refuse _, h.pci.refuse _⟩

/-- Settles O50: the step waits, refuses its call, or runs an instruction, and each keeps the invariant; the caller's
list is no part of it. -/
theorem stepKeepsInvariant : Obligations.StepKeepsInvariant := by
  intro s t hinv hstep
  unfold step at hstep
  obtain ⟨-, hf⟩ | ⟨r, rest, u, e, -, hf⟩ | ⟨r, rest, i, -, -, -, hf⟩ := s.fetch_cases <;> rw [hf] at hstep
  · cases hstep
    exact hinv
  · cases hstep
    exact State.Inv.refuseUnits (s := { s with requests := rest }) ⟨hinv.kbd, hinv.pci⟩ u e
  · exact State.Inv.exec (s := { s with requests := rest }) ⟨hinv.kbd, hinv.pci⟩ hstep

/-! ### The state after reset -/

/-- Settles O48: every field of the reset state is a literal, and a fresh buffer is `none` in each slot. -/
theorem resetStateValues : Obligations.ResetStateValues := by
  refine ⟨rfl, rfl, rfl, rfl, fun j => ?_, rfl, rfl⟩
  exact Vector.getElem_replicate j.isLt

/-- Settles O49: every field of the reset state is a literal but the parameters. -/
theorem resetInvariant : Obligations.ResetInvariant where
  kbd :=
    { legal := rfl
      fifo := Fifo.wf_empty
      inFlight := fun hst => absurd hst (by decide)
      flags := rfl
      params := Config.kbdParams_wf
      traffic := List.forall_mem_nil _ }
  pci :=
    { traffic := List.forall_mem_nil _
      entryBits := le_rfl }

end Sys2Proof.Machine
end

section
/-!
SUPPORT. Which instructions write which parts of the Keyboard Unit (spec/10_state.md R33, R37, R41;
spec/42_command_queue.md R239), read off from what each instruction can do; and what no step writes at all.
-/

namespace Sys2Proof.Machine

/-! ### Port writes of a history -/

theorem portWrites_commandWrites_append (p : KbdParams) (cmd : ControllerCommand) (h : List Event) :
    portWrites (commandWrites p cmd ++ h) = commandWrites p cmd ++ portWrites h := by
  rw [portWrites, List.filter_append, List.filter_eq_self.2 fun e he => ?_, portWrites]
  obtain ⟨b, -, rfl⟩ := List.mem_map.1 (List.mem_reverse.1 he)
  rfl

/-! ### TRANSMIT and delivery -/

theorem Kbd.transmit_history (k : Kbd) (cmd : ControllerCommand) :
    (k.transmit cmd).history = commandWrites k.params cmd ++ k.history := by
  rw [Kbd.transmit_eq]
  rfl

/-- TRANSMIT writes the command's bytes and no other port (R233). -/
theorem Kbd.transmit_portWrites (k : Kbd) (cmd : ControllerCommand) :
    portWrites (k.transmit cmd).history = commandWrites k.params cmd ++ portWrites k.history := by
  rw [Kbd.transmit_history, portWrites_commandWrites_append]

@[simp] theorem Kbd.transmit_st (k : Kbd) (cmd : ControllerCommand) : (k.transmit cmd).st = k.st := by
  rw [Kbd.transmit_eq]

@[simp] theorem Kbd.transmit_flags (k : Kbd) (cmd : ControllerCommand) : (k.transmit cmd).flags = k.flags := by
  rw [Kbd.transmit_eq]

/-- Nothing was emitted: POLL delivers nothing (R310). -/
theorem Kbd.deliver_of_emitted_none {k : Kbd} (h : k.result = .emitted none) (b : Byte) :
    k.deliver b = k.setResult .nothing := by
  simp only [Kbd.deliver, h]

@[simp] theorem Kbd.deliver_q (k : Kbd) (b : Byte) : (k.deliver b).q = k.q := by
  unfold Kbd.deliver
  split
  · dsimp only
    split <;> rfl
  · rfl

/-- A delivery records a callback at most, which is no port access (R313). -/
@[simp] theorem Kbd.deliver_portWrites (k : Kbd) (b : Byte) :
    portWrites (k.deliver b).history = portWrites k.history := by
  unfold Kbd.deliver
  split
  · dsimp only
    split <;> rfl
  · rfl

/-- What POLL's two reads leave: the unit with both reads recorded (R312). -/
theorem Kbd.pollReads_eq {k k₁ : Kbd} {b : Byte}
    (h : (k.portRead Config.kbdStatusPort).2.portRead Config.kbdDataPort = (b, k₁)) :
    ∃ x, k₁ = { k with
      draws := k.draws.tail.tail, drawCount := k.drawCount + 2,
      history := .read8 0x0060#16 b :: .read8 0x0064#16 x :: k.history } := by
  obtain ⟨rfl, rfl⟩ := Prod.mk.inj h
  exact ⟨_, rfl⟩

/-! ### What a row and a dispatch write -/

theorem Kbd.RowEffect.flags_eq {k k' : Kbd} {i : Instr} (h : k.RowEffect i k') : k'.flags = k.flags := by
  cases h with
  | move | ack | unused => rfl
  | resend => exact k.transmit_flags _

theorem Kbd.tryDispatch_flags {k k' : Kbd} (h : k.tryDispatch = .next k') : k'.flags = k.flags := by
  obtain ⟨-, rfl⟩ | ⟨cmd, -, -, -, rfl⟩ | ⟨-, -, rfl⟩ := Kbd.tryDispatch_next h
  · rfl
  · exact k.transmit_flags cmd
  · rfl

/-- The ACK row is the only row that shortens the FIFO (R235). -/
theorem Kbd.RowEffect.of_len_lt {k k' : Kbd} {i : Instr} (h : k.RowEffect i k')
    (hlt : k'.q.len.toNat < k.q.len.toNat) :
    i = .feedAwaitingAck ∧ k.st = DecoderState.code .awaitingControllerResponse ∧
      k' = (Kbd.setSt { k with q := k.q.pop } .start).emit none := by
  cases h with
  | ack hst => exact ⟨rfl, hst, rfl⟩
  | move | unused => exact absurd hlt (lt_irrefl _)
  | resend => simp at hlt

/-- The RESEND row is the only row that writes a port, and it transmits the head command (R236). -/
theorem Kbd.RowEffect.of_portWrites_ne {k k' : Kbd} {i : Instr} (h : k.RowEffect i k')
    (hne : portWrites k'.history ≠ portWrites k.history) :
    i = .feedAwaitingResend ∧ k.st = DecoderState.code .awaitingControllerResponse ∧ k.q.len ≠ 0#5 ∧
      ∃ cmd, k.q.buf[k.q.start.toNat]'(k.q.start.isLt) = some cmd ∧ k' = (k.transmit cmd).emit none := by
  cases h with
  | resend hst hlen hbuf => exact ⟨rfl, hst, hlen, _, k.q.buf_slot_zero ▸ hbuf, rfl⟩
  | move | ack | unused => exact absurd rfl hne

/-! ### The statements -/

/-- Settles O26: every effect but the ACK's and the RESET's keeps the FIFO's length or adds to it. -/
theorem onlyAckDequeues : Obligations.OnlyAckDequeues := by
  intro i s t hwf hreset h hlt
  obtain ⟨k, heff, rfl⟩ | ⟨u, -, rfl⟩ | ⟨-, rfl⟩ := exec_cases h
  · cases heff with
    | row _ _ hrow =>
      obtain ⟨rfl, hst, rfl⟩ := hrow.of_len_lt hlt
      exact ⟨hst, rfl, rfl, .inl rfl⟩
    | feed hrow =>
      obtain ⟨hack, hst, rfl⟩ := hrow.of_len_lt hlt
      obtain rfl := eq_ackByte_of_decodeKey hack
      exact ⟨hst, rfl, rfl, .inr (.inl rfl)⟩
    | reset => exact absurd rfl hreset
    | @enqueue id data hfree =>
      have hlen := Fifo.push_len_toNat (q := s.kbd.q) ⟨id, data⟩ (hwf.len_lt hfree)
      exact absurd hlt (by simp only [Kbd.setResult_q, hlen]; omega)
    | tryDispatch hk => exact absurd hlt (by rw [Kbd.tryDispatch_q hk]; exact lt_irrefl _)
    | enqueueFull | modApply | pollRefused | pollIdle => exact absurd hlt (lt_irrefl _)
    | @pollByte k₁ b k' hread hrow =>
      obtain ⟨x, rfl⟩ := Kbd.pollReads_eq hread
      rw [Kbd.deliver_q] at hlt
      obtain ⟨hack, hst, rfl⟩ := hrow.of_len_lt hlt
      obtain rfl := eq_ackByte_of_decodeKey hack
      rw [Kbd.deliver_of_emitted_none rfl]
      exact ⟨hst, rfl, rfl, .inr (.inr ⟨rfl, x, rfl⟩)⟩
  · exact absurd hlt (lt_irrefl _)
  · exact absurd hlt (lt_irrefl _)

/-- Settles O27: the head command is transmitted by the dispatch gate and by the RESEND row, and nothing else writes a
port. -/
theorem onlyHeadCommandIsSent : Obligations.OnlyHeadCommandIsSent := by
  intro i s t h hne
  obtain ⟨k, heff, rfl⟩ | ⟨u, -, rfl⟩ | ⟨-, rfl⟩ := exec_cases h
  · cases heff with
    | row _ _ hrow =>
      obtain ⟨rfl, hst, hlen, cmd, hbuf, rfl⟩ := hrow.of_portWrites_ne hne
      exact ⟨(s.kbd.transmit_st cmd).trans hst, s.kbd.transmit_q cmd, hlen, cmd, hbuf, s.kbd.transmit_portWrites cmd,
        .inr ⟨hst, .inl rfl⟩⟩
    | feed hrow =>
      obtain ⟨hresend, hst, hlen, cmd, hbuf, rfl⟩ := hrow.of_portWrites_ne hne
      obtain rfl := eq_resendByte_of_decodeKey hresend
      exact ⟨(s.kbd.transmit_st cmd).trans hst, s.kbd.transmit_q cmd, hlen, cmd, hbuf, s.kbd.transmit_portWrites cmd,
        .inr ⟨hst, .inr (.inl rfl)⟩⟩
    | tryDispatch hk =>
      obtain ⟨-, rfl⟩ | ⟨cmd, hst, hlen, hbuf, rfl⟩ | ⟨-, -, rfl⟩ := Kbd.tryDispatch_next hk
      · exact absurd rfl hne
      · exact ⟨rfl, s.kbd.transmit_q cmd, hlen, cmd, s.kbd.q.buf_slot_zero ▸ hbuf, s.kbd.transmit_portWrites cmd,
          .inl ⟨hst, rfl⟩⟩
      · exact absurd rfl hne
    | @pollByte k₁ b k' hread hrow =>
      obtain ⟨x, rfl⟩ := Kbd.pollReads_eq hread
      rw [Kbd.deliver_portWrites] at hne
      obtain ⟨hresend, hst, hlen, cmd, hbuf, rfl⟩ := hrow.of_portWrites_ne hne
      obtain rfl := eq_resendByte_of_decodeKey hresend
      rw [Kbd.deliver_of_emitted_none rfl]
      exact ⟨(Kbd.transmit_st _ cmd).trans hst, Kbd.transmit_q _ cmd, hlen, cmd, hbuf,
        Kbd.transmit_portWrites _ cmd,
        .inr ⟨hst, .inr (.inr ⟨rfl, x, congrArg _ (Kbd.transmit_history _ cmd)⟩)⟩⟩
    | reset | enqueue | enqueueFull | modApply | pollRefused | pollIdle => exact absurd rfl hne
  · exact absurd rfl hne
  · exact absurd rfl hne

/-- Settles O55: the parameter part of `step_extends`, for each unit. -/
theorem parametersAreImmutable : Obligations.ParametersAreImmutable := by
  intro s t h
  obtain ⟨hkbd, hpci⟩ := step_extends h
  exact ⟨hkbd.params, hkbd.callbackRegistered, hpci.entryBits, hpci.absent⟩

/-- Settles O56: the mark's part of `step_extends`, for each unit. -/
theorem refusedMarksAreSticky : Obligations.RefusedMarksAreSticky := by
  intro s t h
  obtain ⟨hkbd, hpci⟩ := step_extends h
  exact ⟨hkbd.refused, hpci.refused⟩

/-- Settles O57: an FSM row that completes is the row of `st` and the byte of its own key. -/
theorem whoWritesDecoderState : Obligations.WhoWritesDecoderState := by
  intro i s t hwf h hne
  obtain ⟨k, heff, rfl⟩ | ⟨u, -, rfl⟩ | ⟨-, rfl⟩ := exec_cases h
  · cases heff with
    | @row _ key _ hcode hst _ =>
      refine .inl ⟨keyByte key, .inr ?_⟩
      rw [← hst, fsmKey_keyState_keyByte]
      exact (decodeKey_of_encode hwf hcode).symm
    | feed => exact .inl ⟨_, .inl rfl⟩
    | tryDispatch => exact .inr (.inl rfl)
    | pollRefused | pollIdle | pollByte => exact .inr (.inr (.inl rfl))
    | reset => exact .inr (.inr (.inr rfl))
    | enqueueFull | enqueue | modApply => exact absurd rfl hne
  · exact absurd rfl hne
  · exact absurd rfl hne

/-- Settles O58: a row and a dispatch leave KeyFlags as they are. -/
theorem whoWritesKeyFlags : Obligations.WhoWritesKeyFlags := by
  intro i s t h hne
  obtain ⟨k, heff, rfl⟩ | ⟨u, -, rfl⟩ | ⟨-, rfl⟩ := exec_cases h
  · cases heff with
    | modApply => exact .inl ⟨_, _, rfl⟩
    | pollRefused | pollIdle | pollByte => exact .inr (.inl rfl)
    | reset => exact .inr (.inr rfl)
    | row _ _ hrow => exact absurd hrow.flags_eq hne
    | feed hrow => exact absurd hrow.flags_eq hne
    | tryDispatch hk => exact absurd (Kbd.tryDispatch_flags hk) hne
    | enqueueFull | enqueue => exact absurd rfl hne
  · exact absurd rfl hne
  · exact absurd rfl hne

end Sys2Proof.Machine
end

section
/-!
SUPPORT. Isolation (spec/20_memory.md R86, R87): every instruction acts on the Keyboard Unit alone, on the PCI Unit
alone, or is a reserved code that both units refuse. Two states that share the unit acted on show that nothing else was
looked at: the same change happens in both. Then the refusal of a call that another agent overlaps.
-/

namespace Sys2Proof.Machine

/-! ### Acting on one unit alone -/

/-- `F` acts on the Keyboard Unit alone: where two states hold the same Keyboard Unit, one outcome of that unit is what
`F` does in both, and it changes nothing else of either. -/
def ActsOnKbd (F : State → Out State) : Prop :=
  ∀ s s' : State, s.kbd = s'.kbd → ∃ o : Out Kbd, F s = s.onKbd o ∧ F s' = s'.onKbd o

/-- `F` acts on the PCI Unit alone, and answers a next state from every state (R272). -/
def ActsOnPci (F : State → Out State) : Prop :=
  ∀ s s' : State, s.pci = s'.pci → ∃ u : Pci, F s = .next { s with pci := u } ∧ F s' = .next { s' with pci := u }

theorem ActsOnKbd.transfer {F : State → Out State} (hF : ActsOnKbd F) {s s' t : State} (hk : s.kbd = s'.kbd)
    (h : F s = .next t) : ∃ k, t = { s with kbd := k } ∧ F s' = .next { s' with kbd := k } := by
  obtain ⟨o, hs, hs'⟩ := hF s s' hk
  obtain ⟨k, rfl, ht⟩ := State.onKbd_next (hs.symm.trans h)
  exact ⟨k, ht, hs'⟩

theorem ActsOnPci.transfer {F : State → Out State} (hF : ActsOnPci F) {s s' t : State} (hu : s.pci = s'.pci)
    (h : F s = .next t) : ∃ u, t = { s with pci := u } ∧ F s' = .next { s' with pci := u } := by
  obtain ⟨u, hs, hs'⟩ := hF s s' hu
  rw [hs] at h
  cases h
  exact ⟨u, rfl, hs'⟩

/-! ### The Keyboard Unit's instructions -/

/-- An FSM row reads and writes the Keyboard Unit alone. -/
theorem exec_row_actsOnKbd {i : Instr} {p : KbdParams} {key : Key} (hkey : encode p i = .key key) :
    ActsOnKbd (exec i) := by
  rintro ⟨k, u, rs⟩ ⟨-, u', rs'⟩ rfl
  cases i with
  | reset | feed | enqueue | tryDispatch | pciRead | pciReadReservedWidth | pciWrite32 | deviceExists | enumerate
  | modApply | poll | reservedA | reservedB | reservedC | reservedD | reservedE | reservedF => cases hkey
  | feedUnusedState c b =>
    by_cases hc : k.st = c ∧ DecoderState.ofCode c = none
    · exact ⟨.next (k.refuse .badStateCode), if_pos hc, if_pos hc⟩
    · exact ⟨.refused .keyNotSelected, if_neg hc, if_neg hc⟩
  | _ => exact ⟨_, rfl, rfl⟩

/-- The key of FEED comes from the unit and the byte, so both states run one row (R140). -/
theorem feedByte_actsOnKbd (b : Byte) : ActsOnKbd (feedByte b) := by
  intro s s' hk
  rw [feedByte_eq_exec b s, feedByte_eq_exec b s', hk]
  exact exec_row_actsOnKbd (encode_decodeKey s'.kbd.params _) s s' hk

theorem execEnqueue_actsOnKbd (id data : Byte) : ActsOnKbd (execEnqueue id data) := by
  rintro ⟨k, u, rs⟩ ⟨-, u', rs'⟩ rfl
  by_cases hfull : k.q.len = Config.queueCapacity
  · exact ⟨.next _, if_pos hfull, if_pos hfull⟩
  · exact ⟨.next _, if_neg hfull, if_neg hfull⟩

/-- The delivery after FEED is the unit's own, so POLL's second half acts where FEED does. -/
theorem pollByte_actsOnKbd : ActsOnKbd pollByte := by
  rintro ⟨k, u, rs⟩ ⟨-, u', rs'⟩ rfl
  simp only [pollByte]
  obtain ⟨o, ho, ho'⟩ := feedByte_actsOnKbd (k.portRead Config.kbdDataPort).1
    ⟨(k.portRead Config.kbdDataPort).2, u, rs⟩ ⟨_, u', rs'⟩ rfl
  rw [ho, ho']
  cases o with
  | next k' => exact ⟨.next (k'.deliver _), rfl, rfl⟩
  | fault f => exact ⟨.fault f, rfl, rfl⟩
  | refused r => exact ⟨.refused r, rfl, rfl⟩

theorem execPoll_actsOnKbd : ActsOnKbd execPoll := by
  rintro ⟨k, u, rs⟩ ⟨-, u', rs'⟩ rfl
  simp only [execPoll]
  split_ifs
  · exact ⟨.next _, rfl, rfl⟩
  · exact ⟨.next _, rfl, rfl⟩
  · obtain ⟨o, ho, ho'⟩ := pollByte_actsOnKbd ⟨(k.portRead Config.kbdStatusPort).2, u, rs⟩ ⟨_, u', rs'⟩ rfl
    exact ⟨o, by rw [ho]; cases o <;> rfl, by rw [ho']; cases o <;> rfl⟩
  · exact ⟨.next _, rfl, rfl⟩

/-! ### Every instruction -/

/-- RESET has nothing to reset in the PCI Unit (R360). -/
theorem exec_actsOnKbd {i : Instr} (hi : unitsOf i = ⟨true, false⟩ ∨ i = .reset) : ActsOnKbd (exec i) := by
  cases hcode : encode Config.kbdParams i with
  | key key => exact exec_row_actsOnKbd hcode
  | request w =>
    cases i with
    | feed b => exact feedByte_actsOnKbd b
    | enqueue id data => exact execEnqueue_actsOnKbd id data
    | poll => exact execPoll_actsOnKbd
    | tryDispatch =>
      rintro ⟨k, u, rs⟩ ⟨-, u', rs'⟩ rfl
      exact ⟨k.tryDispatch, rfl, rfl⟩
    | reset | modApply =>
      rintro ⟨k, u, rs⟩ ⟨-, u', rs'⟩ rfl
      exact ⟨.next _, rfl, rfl⟩
    | pciRead | pciReadReservedWidth | pciWrite32 | deviceExists | enumerate
    | reservedA | reservedB | reservedC | reservedD | reservedE | reservedF => simp [unitsOf] at hi
    | _ => cases hcode

theorem exec_actsOnPci {i : Instr} (hi : unitsOf i = ⟨false, true⟩) : ActsOnPci (exec i) := by
  rintro ⟨k, u, rs⟩ ⟨k', -, rs'⟩ rfl
  cases i with
  | pciRead | pciReadReservedWidth | pciWrite32 | deviceExists | enumerate => exact ⟨_, rfl, rfl⟩
  | _ => cases hi

/-- Where an instruction acts: on one unit alone, or, being a reserved code, on both by a refusal (R118). -/
theorem exec_actsOn (i : Instr) :
    ((unitsOf i = ⟨true, false⟩ ∨ i = .reset) ∧ ActsOnKbd (exec i)) ∨
    (unitsOf i = ⟨false, true⟩ ∧ ActsOnPci (exec i)) ∨
    (unitsOf i = ⟨true, true⟩ ∧ ∀ s, exec i s = .next (s.refuseBoth .reservedOp)) := by
  cases i with
  | reset => exact .inl ⟨.inr rfl, exec_actsOnKbd (.inr rfl)⟩
  | pciRead | pciReadReservedWidth | pciWrite32 | deviceExists | enumerate =>
    exact .inr (.inl ⟨rfl, exec_actsOnPci rfl⟩)
  | reservedA | reservedB | reservedC | reservedD | reservedE | reservedF => exact .inr (.inr ⟨rfl, fun _ => rfl⟩)
  | _ => exact .inl ⟨.inl rfl, exec_actsOnKbd (.inl rfl)⟩

/-! ### The statements -/

/-- Settles O52: each of the two operations is carried over to the state that the other one changes. -/
theorem unitsCommute : Obligations.UnitsCommute := by
  intro i j s t u hi hj ht hu
  obtain ⟨k, rfl, -⟩ := (exec_actsOnKbd hi).transfer rfl ht
  obtain ⟨p, rfl, hj'⟩ := (exec_actsOnPci hj).transfer (s := { s with kbd := k }) (s' := s) rfl hu
  obtain ⟨k', hk', hi'⟩ := (exec_actsOnKbd hi).transfer (s := s) (s' := { s with pci := p }) rfl ht
  obtain rfl : k = k' := congrArg State.kbd hk'
  exact ⟨_, hj', hi'⟩

/-- Settles O53: an instruction that acts on one unit alone leaves the rest of the state as it is. -/
theorem otherUnitIsUntouched : Obligations.OtherUnitIsUntouched := by
  intro i s t h
  obtain ⟨hi, hact⟩ | ⟨hi, hact⟩ | ⟨hi, hact⟩ := exec_actsOn i
  · obtain ⟨k, rfl, -⟩ := hact.transfer rfl h
    have hne : unitsOf i ≠ ⟨false, true⟩ := by
      obtain hi | rfl := hi
      · simp [hi]
      · decide
    exact ⟨fun _ => rfl, fun hpci => absurd hpci hne, rfl⟩
  · obtain ⟨u, rfl, -⟩ := hact.transfer rfl h
    exact ⟨fun hkbd => absurd (hi.symm.trans hkbd) (by decide), fun _ => rfl, rfl⟩
  · cases (hact s).symm.trans h
    exact ⟨fun hkbd => absurd (hi.symm.trans hkbd) (by decide),
      fun hpci => absurd (hi.symm.trans hpci) (by decide), rfl⟩

/-- Settles O54: an instruction of the PCI Unit completes with the Keyboard Unit as it was. -/
theorem keyboardDoesNotSeePci : Obligations.KeyboardDoesNotSeePci := by
  intro i s s' t hk h
  obtain ⟨-, hact⟩ | ⟨-, hact⟩ | ⟨-, hact⟩ := exec_actsOn i
  · obtain ⟨k, rfl, hs'⟩ := hact.transfer hk h
    exact ⟨_, hs', rfl⟩
  · obtain ⟨u, rfl, -⟩ := hact.transfer rfl h
    obtain ⟨u', hs', -⟩ := hact s' s' rfl
    exact ⟨_, hs', hk.symm⟩
  · cases (hact s).symm.trans h
    exact ⟨_, hact s', congrArg (Kbd.refuse · .reservedOp) hk.symm⟩

/-- Settles O60: of the instructions that act on the Keyboard Unit alone, RESET is the one that counts for the PCI Unit,
and it completes. -/
theorem pciDoesNotSeeKeyboard : Obligations.PciDoesNotSeeKeyboard := by
  intro i s s' hu
  obtain ⟨hi, hact⟩ | ⟨-, hact⟩ | ⟨-, hact⟩ := exec_actsOn i
  · refine ⟨fun t t' ht ht' => ?_, fun hpci => ?_⟩
    · obtain ⟨k, rfl, -⟩ := hact.transfer rfl ht
      obtain ⟨k', rfl, -⟩ := hact.transfer rfl ht'
      exact hu.symm
    · obtain hi | rfl := hi
      · simp [hi] at hpci
      · exact ⟨_, _, rfl, rfl⟩
  · obtain ⟨u, hs, hs'⟩ := hact s s' hu
    refine ⟨fun t t' ht ht' => ?_, fun _ => ⟨_, _, hs, hs'⟩⟩
    cases hs.symm.trans ht
    cases hs'.symm.trans ht'
    rfl
  · refine ⟨fun t t' ht ht' => ?_, fun _ => ⟨_, _, hact s, hact s'⟩⟩
    cases (hact s).symm.trans ht
    cases (hact s').symm.trans ht'
    exact congrArg (Pci.refuse · .reservedOp) hu.symm

/-! ### Concurrent use -/

/-- An overlapped call is refused in its units before anything else is asked of it (R86). -/
theorem step_of_overlapped {s : State} {c : Call} {rest : List Request} (h : s.requests = ⟨c, true⟩ :: rest) :
    step s = .next ({ s with requests := rest }.refuseUnits c.units .concurrentUse) := by
  simp [step, State.fetch, h]

/-- A call that no request word spells is one of the PCI Unit, whatever its operands (log 16). -/
theorem Call.units_of_ne_word {c : Call} (h : ∀ w, c ≠ .word w) : c.units = ⟨false, true⟩ := by
  cases c with
  | word w => exact absurd rfl (h w)
  | subwordWrite => rfl
  | numericRead =>
    unfold Call.units Call.instr
    dsimp only
    split_ifs <;> rfl

/-- Settles O8: an overlapped step refuses the call's units, and each clause says which those are. -/
theorem concurrentUseIsRefused : Obligations.ConcurrentUseIsRefused := by
  refine ⟨fun s c rest h hc => ?_, fun s w rest h => ?_⟩
  · rw [step_of_overlapped h, Call.units_of_ne_word hc]
    rfl
  · have hunits : (Call.word w).units = unitsOf (decodeRequest w) := rfl
    rw [step_of_overlapped h, hunits]
    refine ⟨fun hu => ?_, fun hu => ?_, fun hu => ?_⟩ <;> (rw [hu]; rfl)

end Sys2Proof.Machine
end

section
/-!
SUPPORT. The request words (spec/30_encoding.md R117): what the decoder reads for each operation code, the fields of the
operands that the encoder puts together, and with them the round trip of R100.
-/

namespace Sys2Proof.Machine

/-! ### What the decoder reads -/

theorem requestWord_opcode (op : BitVec 4) (x : BitVec 60) : (op ++ x).extractLsb' 60 4 = op :=
  BitVec.extractLsb'_append_eq_left

/-- A field below the operation code is one of the operands. -/
theorem requestWord_operand (op : BitVec 4) (x : BitVec 60) {start len : Nat} (h : start + len ≤ 60) :
    (op ++ x).extractLsb' start len = x.extractLsb' start len :=
  BitVec.extractLsb'_append_eq_of_add_le h

theorem decodeRequest_feed (x : BitVec 60) : decodeRequest (0x1#4 ++ x) = .feed (x.extractLsb' 0 8) := by
  simp (disch := decide) only [decodeRequest, requestWord_opcode, requestWord_operand]
  rfl

theorem decodeRequest_enqueue (x : BitVec 60) :
    decodeRequest (0x2#4 ++ x) = .enqueue (x.extractLsb' 8 8) (x.extractLsb' 0 8) := by
  simp (disch := decide) only [decodeRequest, requestWord_opcode, requestWord_operand]
  rfl

theorem decodeRequest_pciRead (x : BitVec 60) :
    decodeRequest (0x4#4 ++ x) = decodePciRead (x.extractLsb' 48 2) (x.extractLsb' 16 8) (x.extractLsb' 11 5)
      (x.extractLsb' 8 3) (x.extractLsb' 0 8) := by
  simp (disch := decide) only [decodeRequest, requestWord_opcode, requestWord_operand]
  rfl

theorem decodeRequest_pciWrite32 (x : BitVec 60) :
    decodeRequest (0x5#4 ++ x) = .pciWrite32 (x.extractLsb' 16 8) (x.extractLsb' 11 5) (x.extractLsb' 8 3)
      (x.extractLsb' 0 8) (x.extractLsb' 24 32) := by
  simp (disch := decide) only [decodeRequest, requestWord_opcode, requestWord_operand]
  rfl

theorem decodeRequest_deviceExists (x : BitVec 60) :
    decodeRequest (0x6#4 ++ x) =
      .deviceExists (x.extractLsb' 16 8) (x.extractLsb' 11 5) (x.extractLsb' 8 3) := by
  simp (disch := decide) only [decodeRequest, requestWord_opcode, requestWord_operand]
  rfl

theorem decodeRequest_enumerate (x : BitVec 60) : decodeRequest (0x7#4 ++ x) = .enumerate (x.extractLsb' 0 32) := by
  simp (disch := decide) only [decodeRequest, requestWord_opcode, requestWord_operand]
  rfl

theorem decodeRequest_modApply (x : BitVec 60) :
    decodeRequest (0x8#4 ++ x) = .modApply (x.extractLsb' 8 8) (x.extractLsb' 0 8) := by
  simp (disch := decide) only [decodeRequest, requestWord_opcode, requestWord_operand]
  rfl

theorem decodePciRead_code (w : Width) (bus : BitVec 8) (dev : BitVec 5) (fn : BitVec 3) (off : Byte) :
    decodePciRead w.code bus dev fn off = .pciRead w bus dev fn off := by
  cases w <;> rfl

/-! ### What the encoder puts there -/

/-- Two bytes of operands, in bits 15 to 8 and 7 to 0 (R117). -/
theorem bytePair_fields (b b' : Byte) :
    (0#44 ++ b ++ b' : BitVec 60).extractLsb' 8 8 = b ∧ (0#44 ++ b ++ b' : BitVec 60).extractLsb' 0 8 = b' := by
  refine ⟨?_, BitVec.extractLsb'_append_eq_right⟩
  rw [BitVec.extractLsb'_append_eq_of_le (by decide)]
  exact BitVec.extractLsb'_append_eq_right

/-- The operands of a PCI request, whatever stands above them (R117). -/
theorem pciOperands_fields (x : BitVec 36) (bus : BitVec 8) (dev : BitVec 5) (fn : BitVec 3) (off : Byte) :
    let operands : BitVec 60 := x ++ encodePciOperands bus dev fn off
    operands.extractLsb' 16 8 = bus ∧ operands.extractLsb' 11 5 = dev ∧ operands.extractLsb' 8 3 = fn ∧
    operands.extractLsb' 0 8 = off := by
  dsimp only
  simp (disch := decide) only [BitVec.extractLsb'_append_eq_of_add_le, encodePciOperands]
  refine ⟨?_, ?_, ?_, BitVec.extractLsb'_eq_self⟩
  · iterate 2 rw [BitVec.extractLsb'_append_eq_of_le (by decide)]
    exact BitVec.extractLsb'_append_eq_left
  · iterate 2 rw [BitVec.extractLsb'_append_eq_of_le (by decide)]
    exact BitVec.extractLsb'_append_eq_right
  · rw [BitVec.extractLsb'_append_eq_of_le (by decide)]
    exact BitVec.extractLsb'_append_eq_right

/-- PCI_READ's width code, in bits 49 and 48 (R117). -/
theorem widthCode_field (w : BitVec 2) (x : BitVec 24) :
    (0#10 ++ w ++ 0#24 ++ x : BitVec 60).extractLsb' 48 2 = w := by
  iterate 2 rw [BitVec.extractLsb'_append_eq_of_le (by decide)]
  exact BitVec.extractLsb'_append_eq_right

/-- PCI_WRITE32's value, in bits 55 to 24 (R117). -/
theorem writeValue_field (v : Dword) (x : BitVec 24) : (0#4 ++ v ++ x : BitVec 60).extractLsb' 24 32 = v := by
  rw [BitVec.extractLsb'_append_eq_of_le (by decide)]
  exact BitVec.extractLsb'_append_eq_right

/-! ### The round trip -/

/-- The request word of an instruction decodes to it: each operand is read where it was put. -/
theorem decodeRequest_of_encode {p : KbdParams} {i : Instr} {w : RequestWord} (hw : encode p i = .request w) :
    decodeRequest w = i := by
  cases i with
  | reset | tryDispatch | pciReadReservedWidth | poll
  | reservedA | reservedB | reservedC | reservedD | reservedE | reservedF =>
    cases hw
    rfl
  | feed b =>
    cases hw
    rw [decodeRequest_feed, BitVec.extractLsb'_append_eq_right]
  | enqueue id data =>
    cases hw
    obtain ⟨hid, hdata⟩ := bytePair_fields id data
    rw [decodeRequest_enqueue, hid, hdata]
  | pciRead wd bus dev fn off =>
    cases hw
    obtain ⟨hbus, hdev, hfn, hoff⟩ := pciOperands_fields (0#10 ++ wd.code ++ 0#24) bus dev fn off
    rw [decodeRequest_pciRead, hbus, hdev, hfn, hoff, widthCode_field, decodePciRead_code]
  | pciWrite32 bus dev fn off v =>
    cases hw
    obtain ⟨hbus, hdev, hfn, hoff⟩ := pciOperands_fields (0#4 ++ v) bus dev fn off
    rw [decodeRequest_pciWrite32, hbus, hdev, hfn, hoff, writeValue_field]
  | deviceExists bus dev fn =>
    cases hw
    obtain ⟨hbus, hdev, hfn, -⟩ := pciOperands_fields 0#36 bus dev fn 0#8
    rw [decodeRequest_deviceExists, hbus, hdev, hfn]
  | enumerate max =>
    cases hw
    rw [decodeRequest_enumerate, BitVec.extractLsb'_append_eq_right]
  | modApply c raw =>
    cases hw
    obtain ⟨hc, hraw⟩ := bytePair_fields c raw
    rw [decodeRequest_modApply, hc, hraw]
  | _ => cases hw

/-- Settles O1: an instruction is spelled by a decode key or by a request word, and each kind has its round trip. -/
theorem decodeOfEncode : Obligations.DecodeOfEncode := by
  intro p i hwf
  cases hcode : encode p i with
  | key k => exact decodeKey_of_encode hwf hcode
  | request w => exact decodeRequest_of_encode hcode

end Sys2Proof.Machine
end

section
/-!
SUPPORT. The rows of the decode keys (spec/30_encoding.md R106, R107): each key has one well-formed row, FEED runs it
(spec/40_scancode_fsm.md R140), and so does the step after its key is placed (log 18).
-/

namespace Sys2Proof.Machine

/-- A row holds none of the exact bytes that come before it in its state (R107, R140). -/
theorem fsmRow_wellFormed (p : KbdParams) (d : DecoderState) (b : Byte) : (fsmRow p b d).wellFormed p = true := by
  cases d with
  | error => rfl
  | awaitingControllerResponse =>
    dsimp only [fsmRow]
    split_ifs with hack hresend
    · rfl
    · have hne : p.ackByte ≠ p.resendByte := fun h => hack (hresend.trans h.symm)
      simp [Instr.wellFormed, hne]
    · simp [Instr.wellFormed, hack, hresend]
  | _ =>
    dsimp only [fsmRow]
    split_ifs <;> simp_all [Instr.wellFormed]

theorem decodeKey_wellFormed (p : KbdParams) (k : Key) : (decodeKey p k).wellFormed p = true := by
  unfold decodeKey
  split
  next d _ => exact fsmRow_wellFormed p d (keyByte k)
  next hnone => exact decide_eq_true ((DecoderState.ofCode_eq_none_iff (keyState k)).1 hnone)

/-- Settles O2: the row of a key is well formed, and its code is the key. -/
theorem encodeOfDecodedKey : Obligations.EncodeOfDecodedKey :=
  fun p k => ⟨decodeKey_wellFormed p k, encode_decodeKey p k⟩

/-- Settles O5: in each state, FEED's case split is the selection of the row. -/
theorem feedRunsSelectedRow : Obligations.FeedRunsSelectedRow :=
  fun s b => feedByte_eq_exec b s

/-- Settles O3: each word is decoded as it stands; no free value of the parameters at reset is looked at. -/
theorem specWordsDecode : Obligations.SpecWordsDecode :=
  ⟨rfl, rfl, rfl, rfl, rfl, rfl, rfl, rfl, rfl, rfl⟩

theorem codeOfBits_key (k : Key) : codeOfBits 16 k.toNat = .ok (.key k) := by
  simp [codeOfBits]

/-- Outside AwaitingControllerResponse, placing a key writes `st` and the next call only (log 18). -/
theorem State.withFetchWord_key (s : State) {k : Key} (hk : keyState k ≠ 0x9#4) :
    s.withFetchWord 16 k.toNat =
      State.placeRequest { s with kbd := { s.kbd with st := keyState k } } (feedRequest (keyByte k)) := by
  have hstate : keyState k ≠ DecoderState.code .awaitingControllerResponse := hk
  simp [State.withFetchWord, State.placeBits, codeOfBits_key, State.placeKey, hstate]

theorem decodeRequest_feedRequest (b : Byte) : decodeRequest (feedRequest b) = .feed b :=
  decodeRequest_of_encode (p := Config.kbdParams) rfl

theorem step_placeRequest (s : State) (w : RequestWord) : step (s.placeRequest w) = exec (decodeRequest w) s :=
  step_of_fetch_run (State.fetch_word rfl)

/-- Settles O6: the placed call is FEED of the key's byte in the key's state, and FEED runs the row of the key. -/
theorem stepRunsPlacedKey : Obligations.StepRunsPlacedKey := by
  intro s k hk
  rw [State.withFetchWord_key s hk, step_placeRequest, decodeRequest_feedRequest, feedRunsSelectedRow]
  exact congrArg (fun key => exec (decodeKey s.kbd.params key) _) (fsmKey_keyState_keyByte k)

end Sys2Proof.Machine
end

section
/-!
SUPPORT. FEED of a form of several bytes (spec/30_encoding.md R103; spec/40_scancode_fsm.md R140, R166): each byte of it
is one plain move of the decoder.
-/

namespace Sys2Proof.Machine

/-- A plain move from the state that `st` holds writes `st` and the output only (R140). -/
theorem State.onKbd_move_eq_after {s : State} {d d' : DecoderState} {e : Option Byte} (hst : s.kbd.st = d.code) :
    s.onKbd (s.kbd.move d d' e) = .next { s with kbd := s.kbd.after d' e } := by
  rw [Kbd.move_eq hst]
  rfl

/-- A byte whose row is a plain move from the state that `st` holds: the other bytes are fed from the state it moves
to. -/
theorem feedAll_cons_of_move {s : State} {b : Byte} {bs : List Byte} (d d' : DecoderState) {e : Option Byte}
    (hst : s.kbd.st = d.code)
    (hrow : exec (fsmRow s.kbd.params b d) s = s.onKbd (s.kbd.move d d' e)) :
    feedAll (b :: bs) s = feedAll bs { s with kbd := s.kbd.after d' e } := by
  have hfeed : exec (.feed b) s = .next { s with kbd := s.kbd.after d' e } := by
    rw [feedRunsSelectedRow, hst, decode, decodeKey_fsmKey, hrow, State.onKbd_move_eq_after hst]
  rw [feedAll, hfeed]

/-- The extended index of R108, as a number. -/
theorem extIndex_val (b : Byte) : (extIndex b).val = b.toNat % 128 + 0x50 := by
  simp [extIndex, scanCode, Config.extOffset]

theorem extChar_eq (p : KbdParams) (b : Byte) :
    extChar p b = p.baseTable[b.toNat % 128 + 0x50]'(by omega) := by
  simp only [extChar, Fin.getElem_fin, extIndex_val]

/-- The row of an extended key: a continuation that begins no Print Screen form and is no error (R148). -/
theorem exec_fsmRow_extKey {s : State} {c : Byte} (h2A : c ≠ 0x2A#8) (hB7 : c ≠ 0xB7#8)
    (herr : c ∉ s.kbd.params.extErrorSet) :
    exec (fsmRow s.kbd.params c .extendedPrefix) s =
      s.onKbd (s.kbd.move .extendedPrefix .start (some (extChar s.kbd.params c))) := by
  have hrow : fsmRow s.kbd.params c .extendedPrefix = .feedExtKey c := by simp [fsmRow, h2A, hB7, herr]
  rw [hrow]
  rfl

/-- Settles O22: each form is a path of plain moves from Start back to Start, whose last move alone has an output. -/
theorem escapeFormsEmitOnce : Obligations.EscapeFormsEmitOnce := by
  intro s hst
  have hstart : s.kbd.st = DecoderState.code .start := hst
  refine ⟨fun c h2A hB7 herr => ⟨_, (extChar_eq _ _).symm, ?_⟩, ?_, ?_, ?_, ?_⟩
  · rw [feedAll_cons_of_move .start .extendedPrefix hstart rfl,
      feedAll_cons_of_move .extendedPrefix .start rfl (by exact exec_fsmRow_extKey h2A hB7 herr)]
    simp [feedAll, Kbd.after, hstart]
  · rw [feedAll_cons_of_move .start .extendedPrefix hstart rfl,
      feedAll_cons_of_move .extendedPrefix .prtScPressWait1 rfl rfl,
      feedAll_cons_of_move .prtScPressWait1 .prtScPressWait2 rfl rfl,
      feedAll_cons_of_move .prtScPressWait2 .start rfl rfl]
    simp [feedAll, Kbd.after, hstart]
  · rw [feedAll_cons_of_move .start .extendedPrefix hstart rfl,
      feedAll_cons_of_move .extendedPrefix .prtScReleaseWait1 rfl rfl,
      feedAll_cons_of_move .prtScReleaseWait1 .prtScReleaseWait2 rfl rfl,
      feedAll_cons_of_move .prtScReleaseWait2 .start rfl rfl]
    simp [feedAll, Kbd.after, hstart]
  · rw [feedAll_cons_of_move .start .pauseSeq1 hstart rfl,
      feedAll_cons_of_move .pauseSeq1 .pausePressWait rfl rfl,
      feedAll_cons_of_move .pausePressWait .start rfl rfl]
    simp [feedAll, Kbd.after, hstart]
  · rw [feedAll_cons_of_move .start .pauseSeq1 hstart rfl,
      feedAll_cons_of_move .pauseSeq1 .pauseReleaseWait rfl rfl,
      feedAll_cons_of_move .pauseReleaseWait .start rfl rfl]
    simp [feedAll, Kbd.after, hstart]

end Sys2Proof.Machine
end

section
/-!
SUPPORT. The configuration address word as fields and as a sum (spec/30_encoding.md R110, R111).
-/

namespace Sys2Proof.Machine

/-- Bits side by side are a sum. -/
theorem toNat_append_eq_mul_add {m n : Nat} (x : BitVec m) (y : BitVec n) :
    (x ++ y).toNat = x.toNat * 2 ^ n + y.toNat := by
  rw [BitVec.toNat_append, ← Nat.shiftLeft_add_eq_or_of_lt y.isLt, Nat.shiftLeft_eq]

theorem addrEnc_toNat (bus : BitVec 8) (dev : BitVec 5) (fn : BitVec 3) (off : Byte) :
    (addrEnc bus dev fn off).toNat =
      0x80000000 + bus.toNat * 0x10000 + dev.toNat * 0x800 + fn.toNat * 0x100 + off.toNat / 4 * 4 := by
  have hoff : (off.extractLsb' 2 6).toNat = off.toNat / 4 := by
    rw [BitVec.extractLsb'_toNat, Nat.shiftRight_eq_div_pow]
    omega
  rw [addrEnc_eq_append]
  iterate 5 rw [toNat_append_eq_mul_add]
  rw [hoff]
  simp only [BitVec.toNat_ofNat]
  omega

/-- Settles O35: the fields of the word are read off its parts side by side. -/
theorem addressWordFields : Obligations.AddressWordFields := by
  intro bus dev fn off
  refine ⟨addrEnc_toNat bus dev fn off, ?_, ?_, ?_, ?_, ?_, addrRegister_addrEnc bus dev fn off,
    (addressWord_addrEnc bus dev fn off).2⟩ <;> rw [addrEnc_eq_append]
  · iterate 5 rw [BitVec.extractLsb'_append_eq_of_le (by decide)]
    rfl
  · iterate 5 rw [BitVec.extractLsb'_append_eq_of_le (by decide)]
    rfl
  · iterate 4 rw [BitVec.extractLsb'_append_eq_of_le (by decide)]
    exact BitVec.extractLsb'_append_eq_right
  · iterate 3 rw [BitVec.extractLsb'_append_eq_of_le (by decide)]
    exact BitVec.extractLsb'_append_eq_right
  · iterate 2 rw [BitVec.extractLsb'_append_eq_of_le (by decide)]
    exact BitVec.extractLsb'_append_eq_right

end Sys2Proof.Machine
end

section
/-!
SUPPORT. The encodings without an operation: what the unused state codes (spec/30_encoding.md R106) and the reserved
codes (R118) select is refused.
-/

namespace Sys2Proof.Machine

theorem execFeedUnusedState_eq {s : State} (b : Byte) (hnone : DecoderState.ofCode s.kbd.st = none) :
    execFeedUnusedState s.kbd.st b s = .next { s with kbd := s.kbd.refuse .badStateCode } :=
  if_pos ⟨rfl, hnone⟩

theorem Kbd.tryDispatch_eq_refuse {k : Kbd} (hnone : DecoderState.ofCode k.st = none) :
    k.tryDispatch = .next (k.refuse .badStateCode) :=
  if_pos hnone

theorem execPoll_eq_refuse {s : State} (hcallback : s.kbd.callbackRegistered = true)
    (hnone : DecoderState.ofCode s.kbd.st = none) :
    execPoll s = .next { s with kbd := s.kbd.refuse .badStateCode } := by
  simp [execPoll, hcallback, hnone]

/-- Settles O18: a state code from 0xB stands for no state, and FEED selects the row of such codes (R106). -/
theorem badStateCodeIsRefused : Obligations.BadStateCodeIsRefused := by
  intro s b hst
  have hnone : DecoderState.ofCode s.kbd.st = none := (DecoderState.ofCode_eq_none_iff _).2 hst
  have hrow := execFeedUnusedState_eq b hnone
  refine ⟨hrow, ?_, ?_, fun hcallback => execPoll_eq_refuse hcallback hnone⟩
  · rw [feedRunsSelectedRow, decode, decodeKey_unused _ hnone]
    exact hrow
  · exact congrArg s.onKbd (Kbd.tryDispatch_eq_refuse hnone)

/-- Settles O40: every reserved operation code is the one refusal of both units. -/
theorem reservedCodesAreRefused : Obligations.ReservedCodesAreRefused := by
  intro s
  refine ⟨rfl, fun i hi => ?_⟩
  simp only [List.mem_cons, List.not_mem_nil, or_false] at hi
  obtain rfl | rfl | rfl | rfl | rfl | rfl := hi <;> rfl

end Sys2Proof.Machine
end

section
/-!
SUPPORT. The rows of the scancode decoder, state by state (spec/40_scancode_fsm.md R142 to R164): in the state its key
holds, a row is one plain move.
-/

namespace Sys2Proof.Machine

/-- The plain index of R108, as a number. -/
theorem plainIndex_val (b : Byte) : (plainIndex b).val = b.toNat % 128 := by
  simp [plainIndex, scanCode]

theorem plainChar_eq (p : KbdParams) (b : Byte) : plainChar p b = p.baseTable[b.toNat % 128]'(by omega) := by
  simp only [plainChar, Fin.getElem_fin, plainIndex_val]

/-- Settles O10: the two prefixes are silent moves, and any other byte emits the entry of its plain index. -/
theorem startRows : Obligations.StartRows := by
  intro s hst
  refine ⟨State.onKbd_move_eq_after hst, State.onKbd_move_eq_after hst, fun b _ _ => ?_⟩
  rw [← plainChar_eq]
  exact State.onKbd_move_eq_after hst

/-- Settles O11: an extended key emits the entry of its extended index, and every other byte is a silent move. -/
theorem extendedPrefixRows : Obligations.ExtendedPrefixRows := by
  intro s hst
  refine ⟨State.onKbd_move_eq_after hst, State.onKbd_move_eq_after hst, fun b _ _ =>
    ⟨fun _ => State.onKbd_move_eq_after hst, fun _ => ?_⟩⟩
  rw [← extChar_eq]
  exact State.onKbd_move_eq_after hst

/-- Settles O12: each row of the three Pause states is a plain move. -/
theorem pauseRows : Obligations.PauseRows :=
  ⟨fun _ hst => ⟨State.onKbd_move_eq_after hst, State.onKbd_move_eq_after hst,
      fun _ _ _ => State.onKbd_move_eq_after hst⟩,
    fun _ hst => ⟨State.onKbd_move_eq_after hst, fun _ _ => State.onKbd_move_eq_after hst⟩,
    fun _ hst => ⟨State.onKbd_move_eq_after hst, fun _ _ => State.onKbd_move_eq_after hst⟩⟩

/-- Settles O13: each row of the four Print Screen states is a plain move. -/
theorem printScreenRows : Obligations.PrintScreenRows :=
  ⟨fun _ hst => ⟨State.onKbd_move_eq_after hst, fun _ _ => State.onKbd_move_eq_after hst⟩,
    fun _ hst => ⟨State.onKbd_move_eq_after hst, fun _ _ => State.onKbd_move_eq_after hst⟩,
    fun _ hst => ⟨State.onKbd_move_eq_after hst, fun _ _ => State.onKbd_move_eq_after hst⟩,
    fun _ hst => ⟨State.onKbd_move_eq_after hst, fun _ _ => State.onKbd_move_eq_after hst⟩⟩

/-- Settles O14: the return from Error is a plain move to Start, whatever the byte. -/
theorem errorRow : Obligations.ErrorRow :=
  fun _ _ hst => State.onKbd_move_eq_after hst

end Sys2Proof.Machine
end

section
/-!
SUPPORT. FEED over all states (spec/40_scancode_fsm.md R140, R166, R167): outside AwaitingControllerResponse each byte
is one plain move, which emits a value and ends in Start, or is silent and ends nearer to Start.
-/

namespace Sys2Proof

/-- The bytes on which a state emits a value (R166). -/
def DecoderState.emits (p : KbdParams) (b : Byte) : DecoderState → Prop
  | .start => b ≠ 0xE0#8 ∧ b ≠ 0xE1#8
  | .extendedPrefix => b ≠ 0x2A#8 ∧ b ≠ 0xB7#8 ∧ b ∉ p.extErrorSet
  | .pausePressWait => b = 0x45#8
  | .pauseReleaseWait => b = 0xC5#8
  | .prtScPressWait2 => b = 0x37#8
  | .prtScReleaseWait2 => b = 0xAA#8
  | .pauseSeq1 | .prtScPressWait1 | .prtScReleaseWait1 | .awaitingControllerResponse | .error => False

/-- The longest way from a state back to Start, in bytes (R167). AwaitingControllerResponse has no such bound, because
RESENDs hold the decoder there (R236): its value stands for nothing, and the lemmas on ways to Start leave it out. -/
def DecoderState.bytesToStart : DecoderState → Nat
  | .start | .awaitingControllerResponse => 0
  | .error => 1
  | .pausePressWait | .pauseReleaseWait | .prtScPressWait2 | .prtScReleaseWait2 => 2
  | .pauseSeq1 | .prtScPressWait1 | .prtScReleaseWait1 => 3
  | .extendedPrefix => 4

/-- The six cases of R166, by the state's code. -/
theorem DecoderState.emits_iff_code (p : KbdParams) (b : Byte) (d : DecoderState) :
    d.emits p b ↔
      (d.code = 0x0#4 ∧ b ≠ 0xE0#8 ∧ b ≠ 0xE1#8) ∨
      (d.code = 0x1#4 ∧ b ≠ 0x2A#8 ∧ b ≠ 0xB7#8 ∧ b ∉ p.extErrorSet) ∨
      (d.code = 0x3#4 ∧ b = 0x45#8) ∨ (d.code = 0x4#4 ∧ b = 0xC5#8) ∨
      (d.code = 0x6#4 ∧ b = 0x37#8) ∨ (d.code = 0x8#4 ∧ b = 0xAA#8) := by
  cases d <;> simp [DecoderState.emits, DecoderState.code]

theorem DecoderState.bytesToStart_le_four (d : DecoderState) : d.bytesToStart ≤ 4 := by
  cases d <;> decide

theorem DecoderState.bytesToStart_pos {d : DecoderState} (hstart : d ≠ .start)
    (hne : d ≠ .awaitingControllerResponse) : 0 < d.bytesToStart := by
  cases d with
  | start => exact absurd rfl hstart
  | awaitingControllerResponse => exact absurd rfl hne
  | _ => decide

end Sys2Proof

namespace Sys2Proof.Machine

/-- A state code up to 0xA but 0x9 is the code of a state that awaits no response (R105). -/
theorem exists_code_eq_of_le {c : StateCode} (hlegal : c.toNat ≤ 0xA) (hawait : c ≠ 0x9#4) :
    ∃ d : DecoderState, c = d.code ∧ d ≠ .awaitingControllerResponse := by
  cases hc : DecoderState.ofCode c with
  | none =>
    have hunused := (DecoderState.ofCode_eq_none_iff c).1 hc
    omega
  | some d =>
    obtain rfl := DecoderState.code_of_ofCode hc
    exact ⟨d, rfl, fun hd => hawait (congrArg DecoderState.code hd)⟩

/-- The two kinds of move a byte makes in state `d`: with a value to Start, or silent, nearer to Start unless it leaves
Start. Neither enters AwaitingControllerResponse (R166, R167). -/
inductive FsmMove (p : KbdParams) (b : Byte) (d : DecoderState) : DecoderState → Option Byte → Prop where
  | value {c} : d.emits p b → FsmMove p b d .start (some c)
  | silent {d'} : ¬ d.emits p b → d' ≠ .awaitingControllerResponse →
      (d ≠ .start → d'.bytesToStart < d.bytesToStart) → FsmMove p b d d' none

theorem FsmMove.isSome_iff_emits {p : KbdParams} {b : Byte} {d d' : DecoderState} {e : Option Byte}
    (h : FsmMove p b d d' e) : e.isSome = true ↔ d.emits p b := by
  cases h with
  | value hemits => simp [hemits]
  | silent hsilent => simp [hsilent]

theorem FsmMove.eq_start_of_isSome {p : KbdParams} {b : Byte} {d d' : DecoderState} {e : Option Byte}
    (h : FsmMove p b d d' e) (he : e.isSome = true) : d' = .start := by
  cases h with
  | value => rfl
  | silent => cases he

theorem FsmMove.ne_awaiting {p : KbdParams} {b : Byte} {d d' : DecoderState} {e : Option Byte}
    (h : FsmMove p b d d' e) : d' ≠ .awaitingControllerResponse := by
  cases h with
  | value => decide
  | silent _ hne' => exact hne'

theorem FsmMove.bytesToStart_lt {p : KbdParams} {b : Byte} {d d' : DecoderState} {e : Option Byte}
    (h : FsmMove p b d d' e) (hstart : d ≠ .start) (hne : d ≠ .awaitingControllerResponse) :
    d'.bytesToStart < d.bytesToStart := by
  cases h with
  | value => exact DecoderState.bytesToStart_pos hstart hne
  | silent _ _ hlt => exact hlt hstart

theorem exec_feed_eq_fsmRow {s : State} {d : DecoderState} (hst : s.kbd.st = d.code) (b : Byte) :
    exec (.feed b) s = exec (fsmRow s.kbd.params b d) s := by
  rw [feedRunsSelectedRow, hst, decode, decodeKey_fsmKey]

/-- The row a state selects is one move of the decoder, and nothing else. -/
theorem exec_fsmRow_eq_after {s : State} {d : DecoderState} (hst : s.kbd.st = d.code)
    (hne : d ≠ .awaitingControllerResponse) (b : Byte) :
    ∃ d' e, exec (fsmRow s.kbd.params b d) s = .next { s with kbd := s.kbd.after d' e } ∧
      FsmMove s.kbd.params b d d' e := by
  cases d with
  | start =>
    dsimp only [fsmRow]
    split_ifs with hE0 hE1
    · exact ⟨.extendedPrefix, none, State.onKbd_move_eq_after hst, .silent (fun h => h.1 hE0) (by decide) (by decide)⟩
    · exact ⟨.pauseSeq1, none, State.onKbd_move_eq_after hst, .silent (fun h => h.2 hE1) (by decide) (by decide)⟩
    · exact ⟨.start, _, State.onKbd_move_eq_after hst, .value ⟨hE0, hE1⟩⟩
  | extendedPrefix =>
    dsimp only [fsmRow]
    split_ifs with h2A hB7 herr
    · exact ⟨.prtScPressWait1, none, State.onKbd_move_eq_after hst, .silent (fun h => h.1 h2A) (by decide) (by decide)⟩
    · exact ⟨.prtScReleaseWait1, none, State.onKbd_move_eq_after hst,
        .silent (fun h => h.2.1 hB7) (by decide) (by decide)⟩
    · exact ⟨.error, none, State.onKbd_move_eq_after hst,
        .silent (fun h => h.2.2 (List.contains_iff_mem.1 herr)) (by decide) (by decide)⟩
    · exact ⟨.start, _, State.onKbd_move_eq_after hst, .value ⟨h2A, hB7, fun h => herr (List.contains_iff_mem.2 h)⟩⟩
  | pausePressWait | pauseReleaseWait | prtScPressWait2 | prtScReleaseWait2 =>
    dsimp only [fsmRow]
    split_ifs with hb
    · exact ⟨.start, _, State.onKbd_move_eq_after hst, .value hb⟩
    · exact ⟨.error, none, State.onKbd_move_eq_after hst, .silent hb (by decide) (by decide)⟩
  | pauseSeq1 | prtScPressWait1 | prtScReleaseWait1 =>
    dsimp only [fsmRow]
    split_ifs <;> exact ⟨_, none, State.onKbd_move_eq_after hst, .silent id (by decide) (by decide)⟩
  | awaitingControllerResponse => exact absurd rfl hne
  | error => exact ⟨.start, none, State.onKbd_move_eq_after hst, .silent id (by decide) (by decide)⟩

/-- FEED outside AwaitingControllerResponse is one move of the decoder, and nothing else (R140). -/
theorem exec_feed_eq_after {s : State} {d : DecoderState} (hst : s.kbd.st = d.code)
    (hne : d ≠ .awaitingControllerResponse) (b : Byte) :
    ∃ d' e, exec (.feed b) s = .next { s with kbd := s.kbd.after d' e } ∧ FsmMove s.kbd.params b d d' e := by
  rw [exec_feed_eq_fsmRow hst]
  exact exec_fsmRow_eq_after hst hne b

/-- Settles O19: a byte is one move of the decoder, with a value in the cases of R166 or silent. -/
theorem feedOutputDiscipline : Obligations.FeedOutputDiscipline := by
  intro s b hlegal hawait
  obtain ⟨d, hst, hne⟩ := exists_code_eq_of_le hlegal hawait
  obtain ⟨d', e, hfeed, hmove⟩ := exec_feed_eq_after hst hne b
  refine ⟨d', e, hfeed, hmove.eq_start_of_isSome, ?_⟩
  rw [hst, hmove.isSome_iff_emits]
  exact d.emits_iff_code s.kbd.params b

/-- As many bytes as the longest way to Start takes have a prefix that ends in Start, whatever they are: each move from
another state shortens the way (R167). -/
theorem feedAll_take_reaches_start (bs : List Byte) {s : State} {d : DecoderState} (hst : s.kbd.st = d.code)
    (hne : d ≠ .awaitingControllerResponse) (hlen : d.bytesToStart ≤ bs.length) :
    ∃ n t, n ≤ bs.length ∧ feedAll (bs.take n) s = .next t ∧ t.kbd.st = DecoderState.code .start := by
  induction bs generalizing s d with
  | nil =>
    have hstart : d = .start := by
      by_contra hstart
      exact (DecoderState.bytesToStart_pos hstart hne).not_ge hlen
    exact ⟨0, s, le_rfl, rfl, hstart ▸ hst⟩
  | cons b bs ih =>
    by_cases hstart : d = .start
    · exact ⟨0, s, Nat.zero_le _, rfl, hstart ▸ hst⟩
    · obtain ⟨d', e, hfeed, hmove⟩ := exec_feed_eq_after hst hne b
      have hshorter := hmove.bytesToStart_lt hstart hne
      rw [List.length_cons] at hlen
      obtain ⟨n, t, hn, hrun, ht⟩ := ih (s := { s with kbd := s.kbd.after d' e }) rfl hmove.ne_awaiting (by omega)
      refine ⟨n + 1, t, Nat.succ_le_succ hn, ?_, ht⟩
      rw [List.take_succ_cons, feedAll, hfeed]
      exact hrun

end Sys2Proof.Machine
end

section
/-!
SUPPORT. FEED in AwaitingControllerResponse (spec/40_scancode_fsm.md R165; spec/42_command_queue.md R234 to R237): the
byte is a response to the head command.
-/

namespace Sys2Proof.Machine

/-! ### The row of a response -/

theorem fsmRow_ackByte (p : KbdParams) : fsmRow p p.ackByte .awaitingControllerResponse = .feedAwaitingAck := if_pos rfl

theorem fsmRow_resendByte {p : KbdParams} (h : p.resendByte ≠ p.ackByte) :
    fsmRow p p.resendByte .awaitingControllerResponse = .feedAwaitingResend :=
  (if_neg h).trans (if_pos rfl)

theorem fsmRow_otherResponse {p : KbdParams} {b : Byte} (hack : b ≠ p.ackByte) (hresend : b ≠ p.resendByte) :
    fsmRow p b .awaitingControllerResponse = .feedAwaitingOther b :=
  (if_neg hack).trans (if_neg hresend)

/-! ### What the row does -/

/-- ACK with a command in flight (R235). -/
theorem execFeedAwaitingAck_eq {s : State} (hst : s.kbd.st = DecoderState.code .awaitingControllerResponse)
    (hlen : s.kbd.q.len ≠ 0#5) :
    execFeedAwaitingAck s = .next { s with kbd := { s.kbd.after .start none with q := s.kbd.q.pop } } := by
  rw [execFeedAwaitingAck, Kbd.inState_eq hst, Kbd.dequeue_eq hlen]
  rfl

/-- RESEND with a command in flight (R236). -/
theorem execFeedAwaitingResend_eq {s : State} {cmd : ControllerCommand}
    (hst : s.kbd.st = DecoderState.code .awaitingControllerResponse) (hlen : s.kbd.q.len ≠ 0#5)
    (hhead : s.kbd.q.buf[s.kbd.q.slot 0] = some cmd) :
    execFeedAwaitingResend s = .next { s with kbd :=
      { s.kbd with
        history := .emit none :: (commandWrites s.kbd.params cmd ++ s.kbd.history), result := .emitted none } } := by
  rw [execFeedAwaitingResend, Kbd.inState_eq hst, Kbd.transmitHead_eq hlen hhead, Kbd.transmit_eq]
  rfl

/-! ### The statements -/

/-- Settles O20: the byte selects the row of its response, and the row is one of the three above. -/
theorem feedWhileAwaitingIsResponse : Obligations.FeedWhileAwaitingIsResponse := by
  intro s b cmd hst hlen hhead
  have hst : s.kbd.st = DecoderState.code .awaitingControllerResponse := hst
  rw [← Fifo.buf_slot_zero] at hhead
  rw [exec_feed_eq_fsmRow hst]
  refine ⟨fun hack => ?_, fun hack hresend => ?_, fun hack hresend => ?_⟩
  · rw [hack, fsmRow_ackByte]
    exact execFeedAwaitingAck_eq hst hlen
  · rw [hresend, fsmRow_resendByte (hresend ▸ hack)]
    exact execFeedAwaitingResend_eq hst hlen hhead
  · rw [fsmRow_otherResponse hack hresend]
    exact State.onKbd_move_eq_after hst

theorem KbdParams.ackByte_ne_resendByte {p : KbdParams} (h : p.wf = true) : p.ackByte ≠ p.resendByte := by
  simp only [KbdParams.wf, Bool.and_eq_true, bne_iff_ne] at h
  obtain ⟨⟨⟨hne, -⟩, -⟩, -⟩ := h
  exact hne

/-- With a command in flight the invariant gives a head command (R43, R44). -/
theorem Kbd.Inv.exists_head {k : Kbd} (h : k.Inv) (hlen : k.q.len ≠ 0#5) : ∃ cmd, k.q.buf[k.q.slot 0] = some cmd := by
  obtain ⟨-, hwritten⟩ := h.fifo
  exact Option.isSome_iff_exists.1 (hwritten 0 (Fifo.len_toNat_pos hlen))

/-- Settles O21: outside AwaitingControllerResponse the way to Start takes at most four bytes; in it, O20 gives the next
state of each response. -/
theorem decoderHealsWithinFourBytes : Obligations.DecoderHealsWithinFourBytes := by
  refine ⟨fun s b₁ b₂ b₃ b₄ hlegal hawait => ?_, fun s b hinv hst => ?_⟩
  · obtain ⟨d, hst, hne⟩ := exists_code_eq_of_le hlegal hawait
    exact feedAll_take_reaches_start [b₁, b₂, b₃, b₄] hst hne d.bytesToStart_le_four
  · have hlen : s.kbd.q.len ≠ 0#5 := hinv.inFlight hst
    obtain ⟨cmd, hhead⟩ := hinv.exists_head hlen
    rw [Fifo.buf_slot_zero] at hhead
    obtain ⟨hackRow, hresendRow, hotherRow⟩ := feedWhileAwaitingIsResponse s b cmd hst hlen hhead
    refine ⟨fun hresend => ?_, fun hresend => ?_⟩
    · by_cases hack : b = s.kbd.params.ackByte
      · exact ⟨_, hackRow hack, rfl⟩
      · exact ⟨_, hotherRow hack hresend, rfl⟩
    · have hack : b ≠ s.kbd.params.ackByte := hresend ▸ (KbdParams.ackByte_ne_resendByte hinv.params).symm
      exact ⟨_, hresendRow hack hresend, hst, rfl⟩

end Sys2Proof.Machine
end

section
/-!
SUPPORT. MOD_APPLY bit by bit (spec/41_modifier_tracker.md R200 to R206; spec/10_state.md R36): each of the nine key codes
has one bit of KeyFlags, MOD_APPLY writes PRESSED and the bit of its own key, and adjusts the character by the result.
-/

namespace Sys2Proof.Machine

/-! ### The keys and their bits -/

/-- The held modifiers with their KeyFlags bits (R202, D26). -/
def heldKeys (p : KbdParams) : List (Byte × Nat) :=
  [(p.modLShift, flagLShift), (p.modRShift, flagRShift), (p.modLCtrl, flagLCtrl), (p.modRCtrl, flagRCtrl),
    (p.modLAlt, flagLAlt), (p.modRAlt, flagRAlt)]

/-- The lock keys with their KeyFlags bits (R203, D26). -/
def lockKeys (p : KbdParams) : List (Byte × Nat) :=
  [(p.lockCaps, flagCaps), (p.lockNum, flagNum), (p.lockScroll, flagScroll)]

/-- The nine key codes with their KeyFlags bits, in the order of `KbdParams.keyCodes`. -/
def keyFlags (p : KbdParams) : List (Byte × Nat) := heldKeys p ++ lockKeys p

theorem keyFlags_map_fst (p : KbdParams) : (keyFlags p).map Prod.fst = p.keyCodes := rfl

theorem keyFlags_map_snd (p : KbdParams) : (keyFlags p).map Prod.snd = [4, 5, 6, 7, 8, 9, 1, 2, 3] := rfl

theorem KbdParams.keyCodes_nodup {p : KbdParams} (h : p.wf = true) : p.keyCodes.Nodup := by
  simp only [KbdParams.wf, Bool.and_eq_true, decide_eq_true_eq] at h
  obtain ⟨⟨⟨-, hnodup⟩, -⟩, -⟩ := h
  exact hnodup

theorem bit_mem_of_mem_keyFlags {p : KbdParams} {k : Byte} {i : Nat} (h : (k, i) ∈ keyFlags p) :
    i ∈ [4, 5, 6, 7, 8, 9, 1, 2, 3] :=
  keyFlags_map_snd p ▸ List.mem_map_of_mem (f := Prod.snd) h

theorem bit_bounds_of_mem_keyFlags {p : KbdParams} {k : Byte} {i : Nat} (h : (k, i) ∈ keyFlags p) : 1 ≤ i ∧ i < 10 :=
  (show ∀ j ∈ [4, 5, 6, 7, 8, 9, 1, 2, 3], 1 ≤ j ∧ j < 10 by decide) i (bit_mem_of_mem_keyFlags h)

theorem mem_keyFlags_of_held {p : KbdParams} {k : Byte} {i : Nat} (h : (k, i) ∈ heldKeys p) : (k, i) ∈ keyFlags p :=
  List.mem_append_left _ h

theorem mem_keyFlags_of_lock {p : KbdParams} {k : Byte} {i : Nat} (h : (k, i) ∈ lockKeys p) : (k, i) ∈ keyFlags p :=
  List.mem_append_right _ h

theorem not_mem_lockKeys_of_held {p : KbdParams} (hwf : p.wf = true) {k : Byte} {i j : Nat}
    (hheld : (k, i) ∈ heldKeys p) : (k, j) ∉ lockKeys p := by
  intro hlock
  have hnodup : ((heldKeys p).map Prod.fst ++ (lockKeys p).map Prod.fst).Nodup := KbdParams.keyCodes_nodup hwf
  obtain ⟨-, -, hdisjoint⟩ := List.nodup_append'.1 hnodup
  exact hdisjoint (List.mem_map_of_mem hheld) (show k ∈ _ from List.mem_map_of_mem (f := Prod.fst) hlock)

/-- With distinct codes, keys and bits determine each other. -/
theorem key_eq_iff_bit_eq {p : KbdParams} (hwf : p.wf = true) {c k : Byte} {i j : Nat} (hc : (c, i) ∈ keyFlags p)
    (hk : (k, j) ∈ keyFlags p) : c = k ↔ j = i := by
  have hkeys : ((keyFlags p).map Prod.fst).Nodup := KbdParams.keyCodes_nodup hwf
  have hbits : ((keyFlags p).map Prod.snd).Nodup := by rw [keyFlags_map_snd]; decide
  exact ⟨fun h => congrArg Prod.snd (List.inj_on_of_nodup_map hkeys hk hc h.symm),
    fun h => congrArg Prod.fst (List.inj_on_of_nodup_map hbits hc hk h.symm)⟩

/-! ### KeyFlags after MOD_APPLY -/

/-- Everything the update of a key can do: a held modifier's bit is set to the press, a lock key's bit toggles on a
press, and otherwise nothing happens (R202, R203). -/
inductive KeyUpdate (p : KbdParams) (c : Byte) (pressed : Bool) (f : BitVec 16) : BitVec 16 → Prop where
  | held {i} : (c, i) ∈ heldKeys p → KeyUpdate p c pressed f (setFlag f i pressed)
  | lock {i} : (c, i) ∈ lockKeys p → pressed = true → KeyUpdate p c pressed f (setFlag f i (!f.getLsbD i))
  | none : (∀ i, (c, i) ∉ heldKeys p) → (∀ i, (c, i) ∈ lockKeys p → pressed = false) → KeyUpdate p c pressed f f

theorem keyFlagUpdate_spec (p : KbdParams) (c : Byte) (pressed : Bool) (f : BitVec 16) :
    KeyUpdate p c pressed f (keyFlagUpdate p c pressed f) := by
  unfold keyFlagUpdate
  split_ifs with hLShift hRShift hLCtrl hRCtrl hLAlt hRAlt hCaps hNum hScroll
  · exact .held (by simp [heldKeys, hLShift])
  · exact .held (by simp [heldKeys, hRShift])
  · exact .held (by simp [heldKeys, hLCtrl])
  · exact .held (by simp [heldKeys, hRCtrl])
  · exact .held (by simp [heldKeys, hLAlt])
  · exact .held (by simp [heldKeys, hRAlt])
  · exact .lock (by simp [lockKeys, hCaps.1]) hCaps.2
  · exact .lock (by simp [lockKeys, hNum.1]) hNum.2
  · exact .lock (by simp [lockKeys, hScroll.1]) hScroll.2
  · refine .none (fun i => by simp [heldKeys, *]) fun i hi => ?_
    simp only [lockKeys, List.mem_cons, Prod.mk.injEq, List.not_mem_nil, or_false] at hi
    obtain ⟨hc, -⟩ | ⟨hc, -⟩ | ⟨hc, -⟩ := hi
    · simpa [hc] using hCaps
    · simpa [hc] using hNum
    · simpa [hc] using hScroll

theorem setFlag_getLsbD_of_mem {p : KbdParams} {c : Byte} {i : Nat} (hi : (c, i) ∈ keyFlags p) (f : BitVec 16)
    (j : Nat) (v : Bool) : (setFlag f i v).getLsbD j = if j = i then v else f.getLsbD j :=
  setFlag_getLsbD f i j v ((bit_bounds_of_mem_keyFlags hi).2.trans (by decide))

section KeyUpdate

variable {p : KbdParams} {c : Byte} {pressed : Bool} {f f' : BitVec 16} {j : Nat}

/-- The update of key `c` leaves every bit but `c`'s own. -/
theorem KeyUpdate.getLsbD_of_not_mem (h : KeyUpdate p c pressed f f') (hj : (c, j) ∉ keyFlags p) :
    f'.getLsbD j = f.getLsbD j := by
  have hne {i : Nat} (hi : (c, i) ∈ keyFlags p) : j ≠ i := fun hji => hj (hji.symm ▸ hi)
  cases h with
  | held hi => rw [setFlag_getLsbD_of_mem (mem_keyFlags_of_held hi), if_neg (hne (mem_keyFlags_of_held hi))]
  | lock hi => rw [setFlag_getLsbD_of_mem (mem_keyFlags_of_lock hi), if_neg (hne (mem_keyFlags_of_lock hi))]
  | none => rfl

/-- The bit of a held modifier mirrors its press or release (R202). -/
theorem KeyUpdate.getLsbD_of_held (h : KeyUpdate p c pressed f f') (hwf : p.wf = true) (hj : (c, j) ∈ heldKeys p) :
    f'.getLsbD j = pressed := by
  cases h with
  | held hi =>
    have hji := (key_eq_iff_bit_eq hwf (mem_keyFlags_of_held hi) (mem_keyFlags_of_held hj)).1 rfl
    rw [setFlag_getLsbD_of_mem (mem_keyFlags_of_held hi), if_pos hji]
  | lock hi => exact absurd hi (not_mem_lockKeys_of_held hwf hj)
  | none hheld => exact absurd hj (hheld j)

/-- The bit of a lock key toggles on its press and stays on its release (R203). -/
theorem KeyUpdate.getLsbD_of_lock (h : KeyUpdate p c pressed f f') (hwf : p.wf = true) (hj : (c, j) ∈ lockKeys p) :
    f'.getLsbD j = if pressed then !f.getLsbD j else f.getLsbD j := by
  cases h with
  | held hi => exact absurd hj (not_mem_lockKeys_of_held hwf hi)
  | lock hi hpressed =>
    obtain rfl := (key_eq_iff_bit_eq hwf (mem_keyFlags_of_lock hi) (mem_keyFlags_of_lock hj)).1 rfl
    rw [setFlag_getLsbD_of_mem (mem_keyFlags_of_lock hi), if_pos rfl, if_pos hpressed]
  | none _ hlock => rw [hlock j hj, if_neg Bool.false_ne_true]

end KeyUpdate

section UpdateFlags

variable {p : KbdParams} {k : Byte} {j : Nat}

/-- MOD_APPLY writes PRESSED and the key's own bit only. -/
theorem updateFlags_getLsbD_of_not_mem (c raw : Byte) (f : BitVec 16) (hj : 1 ≤ j) (hown : (c, j) ∉ keyFlags p) :
    (updateFlags p c raw f).getLsbD j = f.getLsbD j := by
  rw [updateFlags, (keyFlagUpdate_spec _ _ _ _).getLsbD_of_not_mem hown, setFlag_getLsbD _ _ _ _ (by decide),
    if_neg (show j ≠ flagPressed from Nat.ne_of_gt hj)]

/-- Another key's bit stays. -/
theorem updateFlags_getLsbD_of_ne (hwf : p.wf = true) (hk : (k, j) ∈ keyFlags p) {c : Byte} (raw : Byte)
    (f : BitVec 16) (hc : c ≠ k) : (updateFlags p c raw f).getLsbD j = f.getLsbD j :=
  updateFlags_getLsbD_of_not_mem c raw f (bit_bounds_of_mem_keyFlags hk).1 fun hcj =>
    hc ((key_eq_iff_bit_eq hwf hcj hk).2 rfl)

/-- R202 for each held modifier. -/
theorem updateFlags_getLsbD_held (hwf : p.wf = true) (hk : (k, j) ∈ heldKeys p) (c raw : Byte) (f : BitVec 16) :
    (updateFlags p c raw f).getLsbD j = if c = k then !raw.getLsbD 7 else f.getLsbD j := by
  split_ifs with hc
  · subst hc
    exact (keyFlagUpdate_spec _ _ _ _).getLsbD_of_held hwf hk
  · exact updateFlags_getLsbD_of_ne hwf (mem_keyFlags_of_held hk) raw f hc

/-- R203 for each lock key. -/
theorem updateFlags_getLsbD_lock (hwf : p.wf = true) (hk : (k, j) ∈ lockKeys p) (c raw : Byte) (f : BitVec 16) :
    (updateFlags p c raw f).getLsbD j =
      if c = k ∧ raw.getLsbD 7 = false then !f.getLsbD j else f.getLsbD j := by
  by_cases hc : c = k
  · subst hc
    have hj : j ≠ flagPressed := Nat.ne_of_gt (bit_bounds_of_mem_keyFlags (mem_keyFlags_of_lock hk)).1
    rw [updateFlags, (keyFlagUpdate_spec _ _ _ _).getLsbD_of_lock hwf hk, setFlag_getLsbD _ _ _ _ (by decide),
      if_neg hj]
    simp [isPress]
  · rw [updateFlags_getLsbD_of_ne hwf (mem_keyFlags_of_lock hk) raw f hc, if_neg fun h => hc h.1]

end UpdateFlags

/-- MOD_APPLY completes, and writes KeyFlags and the result only (R200, R209). -/
theorem exec_modApply (c raw : Byte) (s : State) :
    exec (.modApply c raw) s = .next { s with kbd :=
      { s.kbd with
        flags := updateFlags s.kbd.params c raw s.kbd.flags,
        result := .adjusted (adjustChar s.kbd.params c raw (updateFlags s.kbd.params c raw s.kbd.flags))
          (updateFlags s.kbd.params c raw s.kbd.flags) } } := rfl

/-- Settles O28: PRESSED by `updateFlags_pressed`, the lock bits and the held bits by their keys' entries in the tables,
and the bits from 10 on because no key has them. -/
theorem modApplyFlags : Obligations.ModApplyFlags := by
  intro s c raw hwf
  have hlock {k : Byte} {j : Nat} (hk : (k, j) ∈ lockKeys s.kbd.params) :=
    updateFlags_getLsbD_lock hwf hk c raw s.kbd.flags
  have hheld {k : Byte} {j : Nat} (hk : (k, j) ∈ heldKeys s.kbd.params) :=
    updateFlags_getLsbD_held hwf hk c raw s.kbd.flags
  refine ⟨_, _, exec_modApply c raw s, updateFlags_pressed _ c raw _,
    hlock ?_, hlock ?_, hlock ?_, hheld ?_, hheld ?_, hheld ?_, hheld ?_, hheld ?_, hheld ?_, fun j hj => ?keyless⟩
  case keyless =>
    exact updateFlags_getLsbD_of_not_mem c raw _ (by omega) fun hown =>
      (bit_bounds_of_mem_keyFlags hown).2.not_ge hj
  all_goals simp [lockKeys, heldKeys, flagCaps, flagNum, flagScroll, flagLShift, flagRShift, flagLCtrl, flagRCtrl,
    flagLAlt, flagRAlt]

/-! ### The adjusted character -/

theorem isLowercase_eq_true_iff (c : Byte) : isLowercase c = true ↔ 0x61 ≤ c.toNat ∧ c.toNat ≤ 0x7A :=
  decide_eq_true_iff

/-- A letter is made uppercase when Caps Lock and Shift differ (R204). -/
theorem adjustChar_toNat_of_letter (p : KbdParams) {c : Byte} (raw : Byte) (f : BitVec 16)
    (h : isLowercase c = true) :
    (adjustChar p c raw f).toNat =
      if (f.getLsbD flagCaps ^^ shiftHeld f) = true then c.toNat - 0x20 else c.toNat := by
  obtain ⟨hlow, -⟩ := (isLowercase_eq_true_iff c).1 h
  have hupper : (c - 0x20#8).toNat = c.toNat - 0x20 := by bv_omega
  rw [adjustChar, if_pos h, apply_ite BitVec.toNat, hupper]

theorem adjustChar_of_not_letter (p : KbdParams) {c : Byte} (raw : Byte) (f : BitVec 16) (h : ¬ isLowercase c = true) :
    adjustChar p c raw f = if shiftHeld f then (shiftEntry p raw).getD c else c :=
  if_neg h

theorem shiftEntry_of_lt {p : KbdParams} {raw : Byte} (h : raw.toNat < p.shiftTableLen.val) :
    shiftEntry p raw = some (p.shiftTable[raw.toNat]'(by have := p.shiftTableLen.isLt; omega)) :=
  dif_pos h

theorem shiftEntry_of_le {p : KbdParams} {raw : Byte} (h : p.shiftTableLen.val ≤ raw.toNat) :
    shiftEntry p raw = none :=
  dif_neg h.not_gt

/-- Settles O29: the letters by R204, any other character by R205 and R206. -/
theorem modApplyCharacter : Obligations.ModApplyCharacter := by
  intro s c raw
  refine ⟨_, _, exec_modApply c raw s, fun hlow hhigh => ?letter, fun hout => ?other⟩
  case letter => exact adjustChar_toNat_of_letter _ raw _ ((isLowercase_eq_true_iff c).2 ⟨hlow, hhigh⟩)
  case other =>
    have hletter : ¬ isLowercase c = true := fun h => by
      obtain ⟨hlow, hhigh⟩ := (isLowercase_eq_true_iff c).1 h
      omega
    rw [adjustChar_of_not_letter _ raw _ hletter]
    refine ⟨fun hlt hshift => ?_, fun hkeep => ?_⟩
    · exact (if_pos hshift).trans (by rw [shiftEntry_of_lt hlt, Option.getD_some])
    · obtain hle | hshift := hkeep
      · rw [shiftEntry_of_le hle, Option.getD_none, ite_self]
      · exact if_neg (Bool.eq_false_iff.1 hshift)

end Sys2Proof.Machine
end

section
/-!
SUPPORT. Which instruction calls the keyboard event callback (spec/41_modifier_tracker.md R208; spec/45_keyboard_poll.md
R313), read off from what each instruction can do.
-/

namespace Sys2Proof.Machine

theorem callbacks_commandWrites_append (p : KbdParams) (cmd : ControllerCommand) (h : List Event) :
    callbacks (commandWrites p cmd ++ h) = callbacks h := by
  rw [callbacks, List.filter_append, List.filter_eq_nil_iff.2 fun e he => ?_, List.nil_append, callbacks]
  obtain ⟨b, -, rfl⟩ := List.mem_map.1 (List.mem_reverse.1 he)
  exact Bool.false_ne_true

theorem Kbd.transmit_callbacks (k : Kbd) (cmd : ControllerCommand) :
    callbacks (k.transmit cmd).history = callbacks k.history := by
  rw [Kbd.transmit_history, callbacks_commandWrites_append]

theorem Kbd.RowEffect.callbacks_eq {k k' : Kbd} {i : Instr} (h : k.RowEffect i k') :
    callbacks k'.history = callbacks k.history := by
  cases h with
  | move | ack | unused => rfl
  | @resend cmd => exact k.transmit_callbacks cmd

theorem Kbd.tryDispatch_callbacks {k k' : Kbd} (h : k.tryDispatch = .next k') :
    callbacks k'.history = callbacks k.history := by
  obtain ⟨-, rfl⟩ | ⟨cmd, -, -, -, rfl⟩ | ⟨-, -, rfl⟩ := Kbd.tryDispatch_next h
  · rfl
  · exact k.transmit_callbacks cmd
  · rfl

/-- A delivery makes no callback, or one: for a press, with the flags it leaves (R207, R313). -/
theorem Kbd.deliver_callbacks (k : Kbd) (b : Byte) :
    callbacks (k.deliver b).history = callbacks k.history ∨
    isPress b = true ∧ (k.deliver b).flags.getLsbD flagPressed = true ∧
      ∃ c, callbacks (k.deliver b).history = .callback c b (k.deliver b).flags :: callbacks k.history := by
  unfold Kbd.deliver
  split
  next c _ =>
    dsimp only
    split
    next hpressed => exact .inr ⟨(updateFlags_pressed k.params c b k.flags).symm.trans hpressed, hpressed, _, rfl⟩
    next => exact .inl rfl
  next => exact .inl rfl

/-- Settles O34: rows, a dispatch and every other instruction leave the callbacks as they are, and a POLL adds what its
delivery adds. -/
theorem callbacksArePressesFromPoll : Obligations.CallbacksArePressesFromPoll := by
  intro i s t h hne
  obtain ⟨k, heff, rfl⟩ | ⟨u, -, rfl⟩ | ⟨-, rfl⟩ := exec_cases h
  · cases heff with
    | row _ _ hrow => exact absurd hrow.callbacks_eq hne
    | feed hrow => exact absurd hrow.callbacks_eq hne
    | tryDispatch hk => exact absurd (Kbd.tryDispatch_callbacks hk) hne
    | @pollByte k₁ b k' hread hrow =>
      obtain ⟨x, rfl⟩ := Kbd.pollReads_eq hread
      have hfed : callbacks k'.history = callbacks s.kbd.history := hrow.callbacks_eq
      obtain hsame | ⟨hpress, hpressed, c, hcall⟩ := k'.deliver_callbacks b
      · exact absurd (hsame.trans hfed) hne
      · exact ⟨rfl, c, b, _, by simpa [isPress] using hpress, hpressed, rfl, hfed ▸ hcall⟩
    | reset | enqueue | enqueueFull | modApply | pollRefused | pollIdle => exact absurd rfl hne
  · exact absurd rfl hne
  · exact absurd rfl hne

end Sys2Proof.Machine
end

section
/-!
SUPPORT. The command queue, operation by operation (spec/42_command_queue.md R230 to R237): ENQUEUE, the dispatch gate,
and the three responses to the head command.
-/

namespace Sys2Proof.Machine

/-! ### ENQUEUE -/

theorem execEnqueue_of_full {s : State} (id data : Byte) (hfull : s.kbd.q.len = 16#5) :
    execEnqueue id data s = .next { s with kbd := s.kbd.setResult (.accepted false) } :=
  if_pos hfull

theorem execEnqueue_of_not_full {s : State} (id data : Byte) (hfree : s.kbd.q.len ≠ 16#5) :
    execEnqueue id data s =
      .next { s with kbd := { s.kbd with q := s.kbd.q.push ⟨id, data⟩, result := .accepted true } } :=
  if_neg hfree

/-- Settles O23: a full queue refuses, and any other is pushed to, which writes the tail's slot and no other. -/
theorem enqueueWritesTailSlot : Obligations.EnqueueWritesTailSlot := by
  intro s id data hle
  refine ⟨execEnqueue_of_full id data, fun hfree => ?_⟩
  have hlt : s.kbd.q.len.toNat < 16 := by bv_omega
  refine ⟨(s.kbd.q.push ⟨id, data⟩).buf, execEnqueue_of_not_full id data hfree, Fifo.push_len_toNat ⟨id, data⟩ hlt,
    fun j => ?_⟩
  rw [Fifo.push_getElem]
  refine if_congr ?_ rfl rfl
  rw [Fin.ext_iff, Fifo.slot_val, eq_comm]

/-! ### The dispatch gate -/

/-- In Start the head command is transmitted, and the decoder awaits its response (R232, R233). -/
theorem Kbd.tryDispatch_eq_transmit {k : Kbd} {cmd : ControllerCommand} (hst : k.st = DecoderState.code .start)
    (hlen : k.q.len ≠ 0#5) (hhead : k.q.buf[k.q.slot 0] = some cmd) :
    k.tryDispatch = .next (((k.transmit cmd).setSt .awaitingControllerResponse).setResult .nothing) := by
  have hlegal : DecoderState.ofCode k.st ≠ none := by simp [hst]
  rw [Kbd.tryDispatch, if_neg hlegal, if_pos ⟨hst, hlen⟩, Kbd.transmitHead_eq hlen hhead]

/-- Outside Start, or with no command queued, the gate stays closed (R232, D12). -/
theorem Kbd.tryDispatch_eq_setResult {k : Kbd} (hlegal : k.st.toNat ≤ 0xA)
    (hclosed : k.st ≠ DecoderState.code .start ∨ k.q.len = 0#5) : k.tryDispatch = .next (k.setResult .nothing) := by
  have hcode : DecoderState.ofCode k.st ≠ none := fun h => by
    have hunused := (DecoderState.ofCode_eq_none_iff k.st).1 h
    omega
  rw [Kbd.tryDispatch, if_neg hcode, if_neg fun ⟨hst, hlen⟩ => hclosed.elim (absurd hst) hlen]

/-- Settles O25: the two sides of the gate. -/
theorem dispatchOnlyFromStart : Obligations.DispatchOnlyFromStart := by
  refine ⟨fun s cmd hst hlen hhead => ?sent, fun s hlegal hclosed => ?closed⟩
  case sent =>
    rw [← Fifo.buf_slot_zero] at hhead
    have hgate := Kbd.tryDispatch_eq_transmit hst hlen hhead
    rw [Kbd.transmit_eq] at hgate
    exact congrArg s.onKbd hgate
  case closed => exact congrArg s.onKbd (Kbd.tryDispatch_eq_setResult hlegal hclosed)

/-! ### The responses -/

theorem Fifo.pop_start_toNat (q : Fifo) : q.pop.start.toNat = (q.start.toNat + 1) % 16 := by
  rw [Fifo.pop_start, BitVec.toNat_add]
  rfl

/-- Settles O15: the ACK row pops the FIFO, which moves `start` on and takes one from `len`. -/
theorem ackDequeuesHead : Obligations.AckDequeuesHead :=
  fun s hst hlen => ⟨execFeedAwaitingAck_eq hst hlen, s.kbd.q.pop_start_toNat, Fifo.pop_len_toNat hlen⟩

/-- Settles O16: the RESEND row transmits the head command, read in the slot that `start` names. -/
theorem resendTransmitsHeadAgain : Obligations.ResendTransmitsHeadAgain := by
  intro s cmd hst hlen hhead
  rw [← Fifo.buf_slot_zero] at hhead
  exact execFeedAwaitingResend_eq hst hlen hhead

/-- Settles O17: the row of any other response is a plain move to Start. -/
theorem otherResponseKeepsHead : Obligations.OtherResponseKeepsHead :=
  fun _ _ hst _ _ => State.onKbd_move_eq_after hst

end Sys2Proof.Machine
end

section
/-!
SUPPORT. Configuration access (spec/43_pci_config_access.md): the calls that become no operation (R260, R270), the dword
a configuration read gets (R271), and the field of it that the operations answer with (R262 to R266).
-/

namespace Sys2Proof.Machine

/-! ### The calls without a request word -/

theorem step_of_call_instr_ok {s : State} {c : Call} {rest : List Request} {i : Instr}
    (h : s.requests = ⟨c, false⟩ :: rest) (hc : c.instr = .ok i) : step s = exec i { s with requests := rest } := by
  simp [step, State.fetch, h, hc]

/-- A call that is no operation is a configuration access, so the PCI Unit refuses it (log 2, log 16). -/
theorem step_of_call_instr_error {s : State} {c : Call} {rest : List Request} {e : RefusalReason}
    (h : s.requests = ⟨c, false⟩ :: rest) (hc : c.instr = .error e) :
    step s = .next { s with requests := rest, pci := s.pci.refuse e } := by
  simp [step, State.fetch, h, hc, Call.units, State.refuseUnits]

theorem numericRead_instr_of_out_of_range (w : Width) {bus dev fn off : Nat}
    (h : bus > 255 ∨ dev > 31 ∨ fn > 7 ∨ off > 255) :
    (Call.numericRead w bus dev fn off).instr = .error .illTyped :=
  if_neg (by omega)

theorem numericRead_instr_toNat (w : Width) (bus : BitVec 8) (dev : BitVec 5) (fn : BitVec 3) (off : Byte) :
    (Call.numericRead w bus.toNat dev.toNat fn.toNat off.toNat).instr = .ok (.pciRead w bus dev fn off) := by
  have hrange : bus.toNat < 256 ∧ dev.toNat < 32 ∧ fn.toNat < 8 ∧ off.toNat < 256 :=
    ⟨bus.isLt, dev.isLt, fn.isLt, off.isLt⟩
  simp [Call.instr, hrange]

/-- Settles O9: the step refuses what is no operation, and runs the PCI_READ that in-range numbers spell. -/
theorem callsWithoutWordAreRefused : Obligations.CallsWithoutWordAreRefused := by
  refine ⟨fun s rest w bus dev fn off v h => step_of_call_instr_error h rfl, fun s rest w bus dev fn off h => ⟨?_, ?_⟩⟩
  · intro hout
    exact step_of_call_instr_error h (numericRead_instr_of_out_of_range w hout)
  · rintro b d f o rfl rfl rfl rfl
    exact step_of_call_instr_ok h (numericRead_instr_toNat w b d f o)

/-! ### The dword of a configuration read -/

/-- The dword that a configuration read at these operands gets from PCI_DATA_PORT, before extraction (R261). -/
def Pci.readDword (u : Pci) (bus : BitVec 8) (dev : BitVec 5) (fn : BitVec 3) (off : Byte) : Dword :=
  (u.writeAddr (addrEnc bus dev fn off)).readData.1

/-- The unit after a configuration read: the address latched, one draw taken, both transactions recorded (R261). -/
def Pci.afterConfigRead (u : Pci) (bus : BitVec 8) (dev : BitVec 5) (fn : BitVec 3) (off : Byte) : Pci :=
  { u with
    addrLatch := addrEnc bus dev fn off, draws := u.draws.tail, drawCount := u.drawCount + 1,
    history := .read32 0x0CFC#16 (u.readDword bus dev fn off) :: .write32 0x0CF8#16 (addrEnc bus dev fn off) ::
      u.history }

theorem Pci.configRead_eq (u : Pci) (bus : BitVec 8) (dev : BitVec 5) (fn : BitVec 3) (off : Byte) (w : Width) :
    u.configRead bus dev fn off w = (extract (u.readDword bus dev fn off) off w, u.afterConfigRead bus dev fn off) :=
  Prod.ext (u.configRead_fst bus dev fn off w) (u.configRead_snd bus dev fn off w)

/-- The environment's answer, but for the sentinel in the low half of an absent function's dword 0 (R271). -/
theorem Pci.readDword_eq_ite (u : Pci) (bus : BitVec 8) (dev : BitVec 5) (fn : BitVec 3) (off : Byte) :
    u.readDword bus dev fn off =
      if (bus ++ dev ++ fn : BitVec 16) ∈ u.absent ∧ off.extractLsb' 2 6 = 0#6 then u.nextDraw ||| 0xFFFF#32
      else u.nextDraw := by
  simp only [Pci.readDword, Pci.readData, Pci.answer, Pci.writeAddr, addrFunction_addrEnc, addrRegister_addrEnc,
    pack_eq_append, List.contains_iff_mem]
  rfl

/-- The dword number is zero for the offsets 0 to 3 only (R110). -/
theorem dwordNumber_eq_zero_iff (off : Byte) : off.extractLsb' 2 6 = 0#6 ↔ off.toNat < 4 := by
  rw [← BitVec.toNat_inj, BitVec.extractLsb'_toNat, Nat.shiftRight_eq_div_pow, BitVec.toNat_zero]
  omega

theorem Pci.readDword_eq_nextDraw {u : Pci} {bus : BitVec 8} {dev : BitVec 5} {fn : BitVec 3} {off : Byte}
    (h : (bus ++ dev ++ fn : BitVec 16) ∉ u.absent ∨ 4 ≤ off.toNat) : u.readDword bus dev fn off = u.nextDraw := by
  rw [Pci.readDword_eq_ite, if_neg]
  rw [dwordNumber_eq_zero_iff]
  rintro ⟨habsent, hlt⟩
  exact h.elim (absurd habsent) (by omega)

theorem Pci.readDword_of_absent {u : Pci} {bus : BitVec 8} {dev : BitVec 5} {fn : BitVec 3} {off : Byte}
    (habsent : (bus ++ dev ++ fn : BitVec 16) ∈ u.absent) (hoff : off.toNat < 4) :
    u.readDword bus dev fn off = u.nextDraw ||| 0xFFFF#32 := by
  rw [Pci.readDword_eq_ite, if_pos ⟨habsent, (dwordNumber_eq_zero_iff off).2 hoff⟩]

/-- Forcing the sentinel into a dword fills its low half and leaves its high half (R271). -/
theorem or_sentinel_eq_append (d : Dword) : d ||| 0xFFFF#32 = (d.extractLsb' 16 16 ++ 0xFFFF#16 : BitVec 32) := by
  apply BitVec.eq_of_getLsbD_eq
  intro i hi
  simp only [BitVec.getLsbD_append]
  interval_cases i <;> simp

theorem toNat_or_sentinel (d : Dword) : (d ||| 0xFFFF#32).toNat = d.toNat / 0x10000 * 0x10000 + 0xFFFF := by
  have hhigh : (d.extractLsb' 16 16).toNat = d.toNat / 0x10000 := by
    rw [BitVec.extractLsb'_toNat, Nat.shiftRight_eq_div_pow]
    omega
  rw [or_sentinel_eq_append, toNat_append_eq_mul_add, hhigh]
  rfl

/-! ### The field of a dword -/

theorem subwordShift_eq (off : Byte) : subwordShift off = 8 * (off.toNat % 4) := by
  simp [subwordShift, BitVec.extractLsb'_toNat]

/-- A field cut out by a shift and a mask of `k` ones, as a number (R109). -/
theorem toNat_ushiftRight_and_ones (d : Dword) (n k : Nat) (hk : k ≤ 32) :
    ((d >>> n) &&& BitVec.ofNat 32 (2 ^ k - 1)).toNat = d.toNat / 2 ^ n % 2 ^ k := by
  have hmask : 2 ^ k - 1 < 2 ^ 32 := by
    have hle : 2 ^ k ≤ 2 ^ 32 := Nat.pow_le_pow_right (by decide) hk
    omega
  rw [BitVec.toNat_and, BitVec.toNat_ofNat, Nat.mod_eq_of_lt hmask, Nat.and_two_pow_sub_one_eq_mod,
    BitVec.toNat_ushiftRight, Nat.shiftRight_eq_div_pow]

theorem extract_w8_toNat (d : Dword) (off : Byte) :
    (extract d off .w8).toNat = d.toNat / 2 ^ (8 * (off.toNat % 4)) % 2 ^ 8 := by
  rw [← subwordShift_eq]
  exact toNat_ushiftRight_and_ones d _ 8 (by decide)

theorem extract_w16_toNat (d : Dword) (off : Byte) :
    (extract d off .w16).toNat = d.toNat / 2 ^ (8 * (off.toNat % 4)) % 2 ^ 16 := by
  rw [← subwordShift_eq]
  exact toNat_ushiftRight_and_ones d _ 16 (by decide)

/-- The probe asks whether the low half of dword 0 is not the sentinel (R266). -/
theorem Pci.probe_fst (u : Pci) (bus : BitVec 8) (dev : BitVec 5) (fn : BitVec 3) :
    (u.probe bus dev fn).1 = decide ((u.readDword bus dev fn 0x00#8).toNat % 0x10000 ≠ 0xFFFF) := by
  have hfield : (extract (u.readDword bus dev fn 0x00#8) 0x00#8 .w16).toNat =
      (u.readDword bus dev fn 0x00#8).toNat % 0x10000 := by
    simpa using extract_w16_toNat (u.readDword bus dev fn 0x00#8) 0x00#8
  rw [Bool.eq_iff_iff, decide_eq_true_iff, ← hfield]
  simp only [Pci.probe, Pci.configRead_eq, bne_iff_ne, ne_eq, ← BitVec.toNat_inj]
  rfl

/-! ### The operations -/

theorem exec_pciRead (w : Width) (bus : BitVec 8) (dev : BitVec 5) (fn : BitVec 3) (off : Byte) (s : State) :
    exec (.pciRead w bus dev fn off) s = .next { s with
      pci := (s.pci.afterConfigRead bus dev fn off).setResult
        (.value (extract (s.pci.readDword bus dev fn off) off w)) } :=
  rfl

theorem exec_deviceExists (bus : BitVec 8) (dev : BitVec 5) (fn : BitVec 3) (s : State) :
    exec (.deviceExists bus dev fn) s = .next { s with
      pci := (s.pci.afterConfigRead bus dev fn 0x00#8).setResult
        (.present (decide ((s.pci.readDword bus dev fn 0x00#8).toNat % 0x10000 ≠ 0xFFFF))) } := by
  rw [← Pci.probe_fst]
  rfl

/-- Settles O36: the read is the two transactions, and its result is the field as a number. -/
theorem pciReadSequence : Obligations.PciReadSequence := by
  intro s w bus dev fn off
  refine ⟨addrEnc bus dev fn off, s.pci.readDword bus dev fn off, extract _ off w, exec_pciRead w bus dev fn off s,
    addrEnc_toNat bus dev fn off, Pci.readDword_eq_nextDraw, ?_⟩
  cases w with
  | w8 => exact extract_w8_toNat _ off
  | w16 => exact extract_w16_toNat _ off
  | w32 => rfl

/-- Settles O37: the two writes are the operation's definition, and the address word drops the offset's low bits. -/
theorem pciWriteSequence : Obligations.PciWriteSequence :=
  fun _ bus dev fn off _ => ⟨addrEnc bus dev fn off, rfl, addrEnc_toNat bus dev fn off⟩

/-- Settles O38: DEVICE_EXISTS is the read at offset 0 with the probe's answer. -/
theorem deviceExistsTestsVendorId : Obligations.DeviceExistsTestsVendorId :=
  fun s bus dev fn => ⟨addrEnc bus dev fn 0x00#8, s.pci.readDword bus dev fn 0x00#8, exec_deviceExists bus dev fn s,
    addrEnc_toNat bus dev fn 0x00#8, fun hpresent => Pci.readDword_eq_nextDraw (.inl hpresent)⟩

/-- Settles O39: the dword read is the environment's with its low half filled, and each answer is one half of it. -/
theorem absentFunctionReadsSentinel : Obligations.AbsentFunctionReadsSentinel := by
  intro s bus dev fn habsent
  have hdword (off : Byte) (hoff : off.toNat < 4) :
      (s.pci.readDword bus dev fn off).toNat = s.pci.nextDraw.toNat / 0x10000 * 0x10000 + 0xFFFF := by
    rw [Pci.readDword_of_absent habsent hoff, toNat_or_sentinel]
  refine ⟨⟨_, exec_deviceExists bus dev fn s, ?present⟩, ⟨_, exec_pciRead .w16 bus dev fn 0x00#8 s, ?vendor⟩,
    _, exec_pciRead .w16 bus dev fn 0x02#8 s, _, rfl, ?device⟩
  case present =>
    rw [Pci.setResult_result, hdword _ (by decide), Nat.mul_add_mod_self_right]
    rfl
  case vendor =>
    refine congrArg OpResult.value (BitVec.eq_of_toNat_eq ?_)
    rw [extract_w16_toNat, hdword _ (by decide)]
    simp
  case device =>
    have hlt := s.pci.nextDraw.isLt
    have hshift : 8 * ((0x02#8 : Byte).toNat % 4) = 16 := rfl
    rw [extract_w16_toNat, hdword _ (by decide), hshift]
    omega

end Sys2Proof.Machine
end

section
/-!
SUPPORT. The address words of a scan (spec/44_pci_enumerator.md R290, R296): which word follows which, and how far into
the scan each one stands.
-/

namespace Sys2Proof.Machine

/-! ### Slots -/

/-- The address word at which slot `n` begins; `none` past the last slot. -/
def slotStart (n : Nat) : Option Dword := if n < 8192 then some (slotWord n) else none

/-- Where the scan of a device goes on at function `k`: after function 7, at the next slot (R290). -/
def functionStart (bus : BitVec 8) (dev : BitVec 5) (k : Nat) : Option Dword :=
  if k < 8 then some (addrEnc bus dev (BitVec.ofNat 3 k) 0x00#8) else slotStart (32 * bus.toNat + dev.toNat + 1)

theorem slotWord_eq_addrEnc (bus : BitVec 8) (dev : BitVec 5) :
    slotWord (32 * bus.toNat + dev.toNat) = addrEnc bus dev 0#3 0x00#8 := by
  apply BitVec.eq_of_toNat_eq
  rw [addrEnc_toNat, slotWord, BitVec.toNat_ofNat, BitVec.toNat_ofNat, BitVec.toNat_ofNat]
  omega

theorem slotStart_eq_addrEnc (bus : BitVec 8) (dev : BitVec 5) :
    slotStart (32 * bus.toNat + dev.toNat) = some (addrEnc bus dev 0#3 0x00#8) := by
  rw [← slotWord_eq_addrEnc, slotStart, if_pos (by omega)]

/-- A slot that exists is the slot of a bus and a device. -/
theorem exists_of_slotStart {n : Nat} {a : Dword} (h : slotStart n = some a) :
    ∃ (bus : BitVec 8) (dev : BitVec 5), n = 32 * bus.toNat + dev.toNat ∧ a = addrEnc bus dev 0#3 0x00#8 := by
  obtain ⟨hlt, rfl⟩ : n < 8192 ∧ slotWord n = a := by simpa [slotStart] using h
  have hn : n = 32 * (BitVec.ofNat 8 (n / 32)).toNat + (BitVec.ofNat 5 n).toNat := by
    simp only [BitVec.toNat_ofNat]
    omega
  exact ⟨_, _, hn, by rw [← slotWord_eq_addrEnc, ← hn]⟩

/-! ### The fields of an address word -/

theorem addrEnc_dwordNumber (bus : BitVec 8) (dev : BitVec 5) (fn : BitVec 3) (off : Byte) :
    (addrEnc bus dev fn off).extractLsb' 2 6 = off.extractLsb' 2 6 :=
  addrRegister_addrEnc bus dev fn off

theorem addrEnc_functionBits (bus : BitVec 8) (dev : BitVec 5) (fn : BitVec 3) (off : Byte) :
    (addrEnc bus dev fn off).extractLsb' 8 3 = fn := by
  obtain ⟨-, -, -, -, -, hfn, -⟩ := addressWordFields bus dev fn off
  exact hfn

theorem addrEnc_function (bus : BitVec 8) (dev : BitVec 5) (fn : BitVec 3) (off : Byte) :
    (addrEnc bus dev fn off).extractLsb' 8 16 = (bus ++ dev ++ fn : BitVec 16) :=
  (addrFunction_addrEnc bus dev fn off).trans (pack_eq_append bus dev fn)

theorem addrEnc_slot_toNat (bus : BitVec 8) (dev : BitVec 5) (fn : BitVec 3) (off : Byte) :
    ((addrEnc bus dev fn off).extractLsb' 11 13).toNat = 32 * bus.toNat + dev.toNat := by
  rw [BitVec.extractLsb'_toNat, Nat.shiftRight_eq_div_pow, addrEnc_toNat]
  omega

theorem function_toNat (bus : BitVec 8) (dev : BitVec 5) (fn : BitVec 3) :
    (bus ++ dev ++ fn : BitVec 16).toNat = 8 * (32 * bus.toNat + dev.toNat) + fn.toNat := by
  rw [toNat_append_eq_mul_add, toNat_append_eq_mul_add]
  omega

/-! ### The word that follows -/

/-- A device is left for the next slot, if there is one (R291, R294). -/
theorem nextSlot_eq_slotStart (bus : BitVec 8) (dev : BitVec 5) :
    (if 32 * bus.toNat + dev.toNat = 8191 then none else some (slotWord (32 * bus.toNat + dev.toNat + 1))) =
      slotStart (32 * bus.toNat + dev.toNat + 1) := by
  have hbus := bus.isLt
  have hdev := dev.isLt
  rw [slotStart, ← ite_not]
  exact if_congr (by omega) rfl rfl

/-- After the probe of function 0 (R291, R294). -/
theorem scanNext_first (bus : BitVec 8) (dev : BitVec 5) (d : Dword) :
    scanNext (addrEnc bus dev 0#3 0x00#8) d =
      if d.setWidth 16 = 0xFFFF#16 then slotStart (32 * bus.toNat + dev.toNat + 1)
      else some (addrEnc bus dev 0#3 0x0E#8) := by
  have hheader : addrEnc bus dev 0#3 0x00#8 + 0x0C#32 = addrEnc bus dev 0#3 0x0E#8 := by
    apply BitVec.eq_of_toNat_eq
    rw [BitVec.toNat_add, addrEnc_toNat, addrEnc_toNat]
    simp only [BitVec.toNat_ofNat]
    omega
  simp only [scanNext, addrEnc_dwordNumber, addrEnc_functionBits, addrEnc_slot_toNat, nextSlot_eq_slotStart,
    slotWord_eq_addrEnc, hheader]
  rfl

/-- After the header type of function 0 (R294). -/
theorem scanNext_header (bus : BitVec 8) (dev : BitVec 5) (d : Dword) :
    scanNext (addrEnc bus dev 0#3 0x0E#8) d =
      if d.getLsbD 23 then functionStart bus dev 1 else slotStart (32 * bus.toNat + dev.toNat + 1) := by
  have hone : addrEnc bus dev 0#3 0x00#8 + 0x100#32 = addrEnc bus dev 1#3 0x00#8 := by
    apply BitVec.eq_of_toNat_eq
    rw [BitVec.toNat_add, addrEnc_toNat, addrEnc_toNat]
    simp only [BitVec.toNat_ofNat]
    omega
  simp only [scanNext, addrEnc_dwordNumber, addrEnc_slot_toNat, nextSlot_eq_slotStart, slotWord_eq_addrEnc, hone]
  rfl

/-- After the probe of one of functions 1 to 7, whatever its answer (R290). -/
theorem scanNext_upper (bus : BitVec 8) (dev : BitVec 5) (d : Dword) {fn : BitVec 3} (hfn : fn ≠ 0#3) :
    scanNext (addrEnc bus dev fn 0x00#8) d = functionStart bus dev (fn.toNat + 1) := by
  simp only [scanNext, addrEnc_dwordNumber, addrEnc_functionBits, addrEnc_slot_toNat, nextSlot_eq_slotStart, hfn,
    functionStart]
  by_cases hlast : fn = 7#3
  · subst hlast
    rfl
  · have hlt : fn.toNat + 1 < 8 := by bv_omega
    have hnext : addrEnc bus dev fn 0x00#8 + 0x100#32 = addrEnc bus dev (BitVec.ofNat 3 (fn.toNat + 1)) 0x00#8 := by
      apply BitVec.eq_of_toNat_eq
      rw [BitVec.toNat_add, addrEnc_toNat, addrEnc_toNat]
      simp only [BitVec.toNat_ofNat]
      omega
    simp [hlast, hlt, hnext]

/-! ### The words a scan writes, and their order -/

/-- The address words a scan can write where `absent` lists the functions the platform lacks: past the first read of a
slot, only those of a slot whose function 0 is present (R291). -/
inductive ScanWord (absent : List (BitVec 16)) : Dword → Prop where
  | first (bus : BitVec 8) (dev : BitVec 5) : ScanWord absent (addrEnc bus dev 0#3 0x00#8)
  | header (bus : BitVec 8) (dev : BitVec 5) :
      (bus ++ dev ++ 0#3 : BitVec 16) ∉ absent → ScanWord absent (addrEnc bus dev 0#3 0x0E#8)
  | upper (bus : BitVec 8) (dev : BitVec 5) (fn : BitVec 3) :
      fn ≠ 0#3 → (bus ++ dev ++ 0#3 : BitVec 16) ∉ absent → ScanWord absent (addrEnc bus dev fn 0x00#8)

/-- How far into the scan an address word stands: nine reads to a slot, in the order of R296. -/
def scanRank (a : Dword) : Nat :=
  9 * (a.extractLsb' 11 13).toNat +
    if a.extractLsb' 2 6 ≠ 0#6 then 1 else if a.extractLsb' 8 3 = 0#3 then 0 else (a.extractLsb' 8 3).toNat + 1

theorem scanRank_first (bus : BitVec 8) (dev : BitVec 5) :
    scanRank (addrEnc bus dev 0#3 0x00#8) = 9 * (32 * bus.toNat + dev.toNat) := by
  simp only [scanRank, addrEnc_dwordNumber, addrEnc_functionBits, addrEnc_slot_toNat]
  rfl

theorem scanRank_header (bus : BitVec 8) (dev : BitVec 5) :
    scanRank (addrEnc bus dev 0#3 0x0E#8) = 9 * (32 * bus.toNat + dev.toNat) + 1 := by
  simp only [scanRank, addrEnc_dwordNumber, addrEnc_functionBits, addrEnc_slot_toNat]
  rfl

theorem scanRank_upper (bus : BitVec 8) (dev : BitVec 5) {fn : BitVec 3} (hfn : fn ≠ 0#3) :
    scanRank (addrEnc bus dev fn 0x00#8) = 9 * (32 * bus.toNat + dev.toNat) + fn.toNat + 1 := by
  simp only [scanRank, addrEnc_dwordNumber, addrEnc_functionBits, addrEnc_slot_toNat, hfn]
  rfl

theorem scanRank_lt (a : Dword) : scanRank a < 8192 * 9 := by
  have hslot := (a.extractLsb' 11 13).isLt
  have hfn := (a.extractLsb' 8 3).isLt
  unfold scanRank
  split_ifs <;> omega

theorem ScanWord.addressWord {absent : List (BitVec 16)} {a : Dword} (h : ScanWord absent a) : addressWord a := by
  cases h <;> exact addressWord_addrEnc _ _ _ _

/-- The function a word of the scan selects: function 0 of a device, or one of a device whose function 0 is present. -/
theorem ScanWord.function_cases {absent : List (BitVec 16)} {a : Dword} (h : ScanWord absent a) :
    ∃ (bus : BitVec 8) (dev : BitVec 5) (fn : BitVec 3), a.extractLsb' 8 16 = (bus ++ dev ++ fn : BitVec 16) ∧
      (fn = 0#3 ∨ (bus ++ dev ++ 0#3 : BitVec 16) ∉ absent) := by
  cases h with
  | first bus dev => exact ⟨bus, dev, 0#3, addrEnc_function _ _ _ _, .inl rfl⟩
  | header bus dev hgate => exact ⟨bus, dev, 0#3, addrEnc_function _ _ _ _, .inr hgate⟩
  | upper bus dev fn _ hgate => exact ⟨bus, dev, fn, addrEnc_function _ _ _ _, .inr hgate⟩

/-- The function and the rank of a probe, as numbers: the header read stands between function 0 and function 1. -/
theorem ScanWord.probe_position {absent : List (BitVec 16)} {a : Dword} (h : ScanWord absent a)
    (hzero : a.extractLsb' 2 6 = 0#6) :
    ∃ n f : Nat, f < 8 ∧ (a.extractLsb' 8 16).toNat = 8 * n + f ∧
      scanRank a = 9 * n + if f = 0 then 0 else f + 1 := by
  cases h with
  | first bus dev => exact ⟨_, 0, by decide, by rw [addrEnc_function, function_toNat]; rfl, scanRank_first bus dev⟩
  | header bus dev => exact absurd ((addrEnc_dwordNumber bus dev _ _).symm.trans hzero) (by decide)
  | upper bus dev fn hfn =>
    refine ⟨_, fn.toNat, fn.isLt, by rw [addrEnc_function, function_toNat], ?_⟩
    rw [scanRank_upper bus dev hfn, if_neg (by bv_omega), Nat.add_assoc]

/-- Of two probes, the one further into the scan is of the higher function (R293). -/
theorem ScanWord.function_lt {absent : List (BitVec 16)} {a b : Dword} (ha : ScanWord absent a)
    (hb : ScanWord absent b) (hza : a.extractLsb' 2 6 = 0#6) (hzb : b.extractLsb' 2 6 = 0#6)
    (hlt : scanRank a < scanRank b) : (a.extractLsb' 8 16).toNat < (b.extractLsb' 8 16).toNat := by
  obtain ⟨n, f, hf, hfa, hra⟩ := ha.probe_position hza
  obtain ⟨m, g, hg, hgb, hrb⟩ := hb.probe_position hzb
  rw [hra, hrb] at hlt
  rw [hfa, hgb]
  split_ifs at hlt <;> omega

/-- The next slot is a word of the scan, further on. -/
theorem scanWord_of_slotStart {absent : List (BitVec 16)} {n : Nat} {b : Dword} (h : slotStart n = some b) :
    ScanWord absent b ∧ scanRank b = 9 * n := by
  obtain ⟨bus, dev, rfl, rfl⟩ := exists_of_slotStart h
  exact ⟨.first bus dev, scanRank_first bus dev⟩

/-- Where the scan goes on at one of functions 1 to 8. -/
theorem scanWord_of_functionStart {absent : List (BitVec 16)} {bus : BitVec 8} {dev : BitVec 5} {k : Nat} {b : Dword}
    (hgate : (bus ++ dev ++ 0#3 : BitVec 16) ∉ absent) (hk : 1 ≤ k) (hk8 : k ≤ 8)
    (h : functionStart bus dev k = some b) :
    ScanWord absent b ∧ scanRank b = 9 * (32 * bus.toNat + dev.toNat) + k + 1 := by
  unfold functionStart at h
  split_ifs at h with hlt
  · cases h
    have hfn : BitVec.ofNat 3 k ≠ 0#3 := by bv_omega
    refine ⟨.upper bus dev _ hfn hgate, ?_⟩
    rw [scanRank_upper bus dev hfn, BitVec.toNat_ofNat, Nat.mod_eq_of_lt hlt]
  · obtain ⟨hword, hrank⟩ := scanWord_of_slotStart (absent := absent) h
    exact ⟨hword, by omega⟩

/-- The scan goes on at a word of the scan, further on: it passes the first read of a slot only where that read's answer,
and so the platform, says that function 0 is present (R271, R291). -/
theorem ScanWord.next {absent : List (BitVec 16)} {a b d : Dword} (ha : ScanWord absent a)
    (hd : a.extractLsb' 8 16 ∈ absent → a.extractLsb' 2 6 = 0#6 → d.setWidth 16 = 0xFFFF#16)
    (hnext : scanNext a d = some b) : ScanWord absent b ∧ scanRank a < scanRank b := by
  cases ha with
  | first bus dev =>
    rw [scanNext_first] at hnext
    rw [scanRank_first]
    split_ifs at hnext with hsentinel
    · obtain ⟨hword, hrank⟩ := scanWord_of_slotStart (absent := absent) hnext
      exact ⟨hword, by omega⟩
    · cases hnext
      have hgate : (bus ++ dev ++ 0#3 : BitVec 16) ∉ absent := fun habsent =>
        hsentinel (hd (by rwa [addrEnc_function]) (addrEnc_dwordNumber bus dev _ _))
      exact ⟨.header bus dev hgate, by rw [scanRank_header]; omega⟩
  | header bus dev hgate =>
    rw [scanNext_header] at hnext
    rw [scanRank_header]
    split_ifs at hnext
    · obtain ⟨hword, hrank⟩ := scanWord_of_functionStart hgate le_rfl (by decide) hnext
      exact ⟨hword, by omega⟩
    · obtain ⟨hword, hrank⟩ := scanWord_of_slotStart (absent := absent) hnext
      exact ⟨hword, by omega⟩
  | upper bus dev fn hfn hgate =>
    rw [scanNext_upper bus dev d hfn] at hnext
    rw [scanRank_upper bus dev hfn]
    obtain ⟨hword, hrank⟩ := scanWord_of_functionStart hgate (by omega) fn.isLt hnext
    exact ⟨hword, by omega⟩

end Sys2Proof.Machine
end

section
/-!
SUPPORT. The reads of a scan and what they found (spec/44_pci_enumerator.md R296): the trips of the configuration reads
it has made, tied to the unit they leave, and the functions those trips found.
-/

namespace Sys2Proof.Machine

/-- A strictly rising list of numbers is no longer than the space it lies in. -/
theorem length_le_of_pairwise_lt {l : List Nat} {n : Nat} (hl : l.Pairwise (· < ·)) (hn : ∀ x ∈ l, x < n) :
    l.length ≤ n := by
  have hnodup : l.Nodup := hl.imp Nat.ne_of_lt
  simpa using (hnodup.subperm fun x hx => List.mem_range.2 (hn x hx)).length_le

/-! ### Trips -/

/-- The address word the scan writes after these trips; `none` where the space ends. -/
def nextWord (trips : List (Dword × Dword)) : Option Dword :=
  trips.getLast?.elim (some (slotWord 0)) fun p => scanNext p.1 p.2

/-- The unit after these trips (R261). -/
def Pci.afterTrips (u : Pci) (trips : List (Dword × Dword)) : Pci :=
  { u with
    addrLatch := trips.getLast?.elim u.addrLatch Prod.fst, draws := u.draws.drop trips.length,
    drawCount := u.drawCount + trips.length, history := (roundTrips trips).reverse ++ u.history }

/-- What the environment can answer to the k-th of the reads: its draw, but for the vendor id of an absent function
(R271; log 8). -/
def Pci.Answers (u : Pci) (k : Nat) (p : Dword × Dword) : Prop :=
  (p.1.extractLsb' 8 16 ∉ u.absent ∨ p.1.extractLsb' 2 6 ≠ 0#6 → p.2 = u.drawAt k) ∧
  (p.1.extractLsb' 8 16 ∈ u.absent → p.1.extractLsb' 2 6 = 0#6 → p.2.setWidth 16 = 0xFFFF#16)

/-- The reads of a scan from unit `u`, each at the word that follows the one before (R296), and the unit they leave. -/
inductive Pci.Scanned (u : Pci) : List (Dword × Dword) → Pci → Prop where
  | nil : Scanned u [] u
  | read {trips : List (Dword × Dword)} {v : Pci} (bus : BitVec 8) (dev : BitVec 5) (fn : BitVec 3) (off : Byte) :
      Scanned u trips v → nextWord trips = some (addrEnc bus dev fn off) →
      Scanned u (trips ++ [(addrEnc bus dev fn off, v.readDword bus dev fn off)]) (v.afterConfigRead bus dev fn off)

theorem nextWord_concat (trips : List (Dword × Dword)) (p : Dword × Dword) :
    nextWord (trips ++ [p]) = scanNext p.1 p.2 := by
  simp [nextWord]

theorem nextWord_of_getLast? {trips : List (Dword × Dword)} {p : Dword × Dword} (h : trips.getLast? = some p) :
    nextWord trips = scanNext p.1 p.2 := by
  simp [nextWord, h]

theorem roundTrips_concat (trips : List (Dword × Dword)) (p : Dword × Dword) :
    roundTrips (trips ++ [p]) = roundTrips trips ++ [.write32 0x0CF8#16 p.1, .read32 0x0CFC#16 p.2] := by
  simp [roundTrips]

@[simp] theorem Pci.afterTrips_absent (u : Pci) (trips : List (Dword × Dword)) :
    (u.afterTrips trips).absent = u.absent := rfl

theorem Pci.afterTrips_nextDraw (u : Pci) (trips : List (Dword × Dword)) :
    (u.afterTrips trips).nextDraw = u.drawAt trips.length := rfl

theorem Pci.afterTrips_concat (u : Pci) (trips : List (Dword × Dword)) (bus : BitVec 8) (dev : BitVec 5)
    (fn : BitVec 3) (off : Byte) :
    u.afterTrips (trips ++ [(addrEnc bus dev fn off, (u.afterTrips trips).readDword bus dev fn off)]) =
      (u.afterTrips trips).afterConfigRead bus dev fn off := by
  simp [Pci.afterTrips, Pci.afterConfigRead, roundTrips_concat, List.tail_drop, Nat.add_assoc]

theorem Pci.readDword_answers (u : Pci) (trips : List (Dword × Dword)) (bus : BitVec 8) (dev : BitVec 5)
    (fn : BitVec 3) (off : Byte) :
    u.Answers trips.length (addrEnc bus dev fn off, (u.afterTrips trips).readDword bus dev fn off) := by
  have hdword := (u.afterTrips trips).readDword_eq_ite bus dev fn off
  rw [Pci.afterTrips_nextDraw, Pci.afterTrips_absent] at hdword
  simp only [Pci.Answers, addrEnc_function, addrEnc_dwordNumber]
  constructor
  · intro hfree
    exact hdword.trans (if_neg (by tauto))
  · intro habsent hzero
    rw [hdword, if_pos ⟨habsent, hzero⟩, or_sentinel_eq_append, BitVec.setWidth_eq_extractLsb' (by decide),
      BitVec.extractLsb'_append_eq_right]

/-! ### What the reads have in common -/

section Scanned

variable {u v : Pci} {trips : List (Dword × Dword)} (h : u.Scanned trips v)
include h

theorem Pci.Scanned.eq_afterTrips : v = u.afterTrips trips := by
  induction h with
  | nil => rfl
  | read bus dev fn off _ _ ih => rw [ih, Pci.afterTrips_concat]

theorem Pci.Scanned.answers {k : Nat} {p : Dword × Dword} (hp : trips[k]? = some p) : u.Answers k p := by
  induction h with
  | nil => cases hp
  | read bus dev fn off hscan _ ih =>
    rw [List.getElem?_append] at hp
    split_ifs at hp with hlt
    · exact ih hp
    · rw [List.getElem?_singleton, Option.ite_none_right_eq_some] at hp
      obtain ⟨hk, ⟨⟩⟩ := hp
      obtain rfl : k = _ := Nat.le_antisymm (Nat.sub_eq_zero_iff_le.1 hk) (Nat.not_lt.1 hlt)
      rw [hscan.eq_afterTrips]
      exact u.readDword_answers _ bus dev fn off

theorem Pci.Scanned.starts : ∀ p ∈ trips.head?, p.1 = slotWord 0 := by
  induction h with
  | nil => simp
  | @read trips _ bus dev fn off _ hnext ih =>
    cases trips with
    | nil => simpa [nextWord, eq_comm] using hnext
    | cons p trips => exact ih

theorem Pci.Scanned.chain : trips.IsChain fun p q => scanNext p.1 p.2 = some q.1 := by
  induction h with
  | nil => exact .nil
  | read bus dev fn off _ hnext ih =>
    refine ih.append (.singleton _) fun p hp q hq => ?_
    cases hq
    exact (nextWord_of_getLast? hp).symm.trans hnext

/-- An absent function answers the sentinel, wherever in the scan it is probed (R271). -/
theorem Pci.Scanned.sentinel_of_absent {p : Dword × Dword} (hp : p ∈ trips)
    (habsent : p.1.extractLsb' 8 16 ∈ u.absent) (hzero : p.1.extractLsb' 2 6 = 0#6) : p.2.setWidth 16 = 0xFFFF#16 := by
  obtain ⟨k, hk⟩ := List.mem_iff_getElem?.1 hp
  exact (h.answers hk).2 habsent hzero

/-- The word that follows is a word of the scan, further on than the last one. -/
theorem Pci.Scanned.nextWord_scanWord (hwords : ∀ p ∈ trips, ScanWord u.absent p.1) {a : Dword}
    (hnext : nextWord trips = some a) :
    ScanWord u.absent a ∧ ∀ p ∈ trips.getLast?, scanRank p.1 < scanRank a := by
  cases hlast : trips.getLast? with
  | none =>
    have hfirst : slotStart 0 = some a := by simpa [nextWord, hlast, slotStart] using hnext
    exact ⟨(scanWord_of_slotStart hfirst).1, by simp⟩
  | some p =>
    have hp : p ∈ trips := List.mem_of_getLast? hlast
    obtain ⟨hword, hrank⟩ :=
      (hwords p hp).next (h.sentinel_of_absent hp) ((nextWord_of_getLast? hlast).symm.trans hnext)
    exact ⟨hword, by simpa using hrank⟩

theorem Pci.Scanned.words : ∀ p ∈ trips, ScanWord u.absent p.1 := by
  induction h with
  | nil => simp
  | read bus dev fn off hscan hnext ih =>
    rw [List.forall_mem_append, List.forall_mem_singleton]
    exact ⟨ih, (hscan.nextWord_scanWord ih hnext).1⟩

/-- Each read stands further into the scan than all before it. -/
theorem Pci.Scanned.ranks : trips.Pairwise fun p q => scanRank p.1 < scanRank q.1 := by
  have : IsTrans (Dword × Dword) fun p q => scanRank p.1 < scanRank q.1 := ⟨fun _ _ _ => lt_trans⟩
  rw [← List.isChain_iff_pairwise]
  induction h with
  | nil => exact .nil
  | read bus dev fn off hscan hnext ih =>
    refine ih.append (.singleton _) fun p hp q hq => ?_
    cases hq
    exact (hscan.nextWord_scanWord hscan.words hnext).2 p hp

/-- A scan makes at most nine reads to a slot. -/
theorem Pci.Scanned.length_le : trips.length ≤ 8192 * 9 := by
  have hranks : (trips.map fun p => scanRank p.1).Pairwise (· < ·) := List.pairwise_map.2 h.ranks
  simpa using length_le_of_pairwise_lt hranks (List.forall_mem_map.2 fun p _ => scanRank_lt p.1)

end Scanned

/-! ### What the reads found -/

/-- A read of dword 0 that answers something else than the sentinel (R266). -/
abbrev foundBy (p : Dword × Dword) : Prop := p.1.extractLsb' 2 6 = 0#6 ∧ p.2.setWidth 16 ≠ 0xFFFF#16

theorem presentProbes_roundTrips (trips : List (Dword × Dword)) :
    presentProbes (roundTrips trips) = (trips.filter fun p => foundBy p).map fun p => p.1.extractLsb' 8 16 := by
  induction trips with
  | nil => rfl
  | cons p trips ih =>
    have hcons : roundTrips (p :: trips) = .write32 0x0CF8#16 p.1 :: .read32 0x0CFC#16 p.2 :: roundTrips trips := rfl
    rw [hcons, presentProbes, ih, List.filter_cons]
    simp only [decide_eq_true_eq]
    split_ifs <;> rfl

theorem presentProbes_concat_of_found {trips : List (Dword × Dword)} {p : Dword × Dword} (hp : foundBy p) :
    presentProbes (roundTrips (trips ++ [p])) = presentProbes (roundTrips trips) ++ [p.1.extractLsb' 8 16] := by
  simp only [presentProbes_roundTrips, List.filter_append, List.map_append]
  simp [hp]

theorem presentProbes_concat_of_not_found {trips : List (Dword × Dword)} {p : Dword × Dword} (hp : ¬ foundBy p) :
    presentProbes (roundTrips (trips ++ [p])) = presentProbes (roundTrips trips) := by
  simp only [presentProbes_roundTrips, List.filter_append, List.map_append]
  simp [hp]

theorem mem_presentProbes_roundTrips {trips : List (Dword × Dword)} {x : BitVec 16} :
    x ∈ presentProbes (roundTrips trips) ↔ ∃ p ∈ trips, foundBy p ∧ p.1.extractLsb' 8 16 = x := by
  simp only [presentProbes_roundTrips, List.mem_map, List.mem_filter, decide_eq_true_eq, and_assoc]

theorem foundBy_addrEnc_iff {bus : BitVec 8} {dev : BitVec 5} {fn : BitVec 3} {d : Dword} :
    foundBy (addrEnc bus dev fn 0x00#8, d) ↔ d.setWidth 16 ≠ 0xFFFF#16 :=
  and_iff_right (addrEnc_dwordNumber bus dev fn 0x00#8)

/-- The probe of a function finds it where the low half of its dword 0 is not the sentinel (R266). -/
theorem Pci.probe_fst_iff (u : Pci) (bus : BitVec 8) (dev : BitVec 5) (fn : BitVec 3) :
    (u.probe bus dev fn).1 = true ↔ (u.readDword bus dev fn 0x00#8).setWidth 16 ≠ 0xFFFF#16 := by
  rw [Pci.probe_fst, decide_eq_true_iff, Ne, Ne, ← BitVec.toNat_inj, BitVec.toNat_setWidth]
  rfl

/-- Bit 7 of the byte at 0x0E is bit 23 of its dword (R294). -/
theorem extract_header_bit (d : Dword) : (extract d 0x0E#8 .w8).getLsbD 7 = d.getLsbD 23 := by
  simp [extract, subwordShift]

end Sys2Proof.Machine
end

section
/-!
SUPPORT. The scan as the reads it makes (spec/44_pci_enumerator.md R290 to R294): each of the loops takes a scan that
stands at one address word to a scan that stands at a later one, or to one that stopped at the bound.
-/

namespace Sys2Proof.Machine

/-! ### Where a scan stands -/

/-- A scan that made these reads from unit `u` and lists what they found, cut off at `max`. -/
structure Scan.Lists (u : Pci) (max : Nat) (trips : List (Dword × Dword)) (c : Scan) : Prop where
  scanned : u.Scanned trips c.pci
  found : c.found.reverse = (presentProbes (roundTrips trips)).take max
  count : c.count = c.found.length

/-- A scan that goes on at the address word `a`, or has come to the end of the space. -/
structure Scan.Before (u : Pci) (max : Nat) (a : Option Dword) (c : Scan) (trips : List (Dword × Dword)) : Prop where
  lists : c.Lists u max trips
  running : c.stopped = false
  next : nextWord trips = a
  fits : (presentProbes (roundTrips trips)).length ≤ max

/-- A scan that stopped at the read that found one function more than fit (R292, D23). -/
structure Scan.Overrun (u : Pci) (max : Nat) (c : Scan) (trips : List (Dword × Dword)) : Prop where
  lists : c.Lists u max trips
  stopped : c.stopped = true
  last : ∃ p, trips.getLast? = some p ∧ foundBy p
  onePast : (presentProbes (roundTrips trips)).length = max + 1

/-- A scan that goes on at `a`, or has stopped on the way there. -/
def Scan.Reaches (u : Pci) (max : Nat) (a : Option Dword) (c : Scan) : Prop :=
  ∃ trips, c.Before u max a trips ∨ c.Overrun u max trips

/-- A loop that runs on from a scan unless it has stopped, as each of the loops does. -/
theorem Scan.Reaches.runOn {u : Pci} {max : Nat} {a b : Option Dword} {c : Scan} {k : Scan → Scan}
    (h : c.Reaches u max a) (hk : ∀ trips, c.Before u max a trips → (k c).Reaches u max b) :
    (if c.stopped then c else k c).Reaches u max b := by
  obtain ⟨trips, hbefore | hoverrun⟩ := h
  · rw [if_neg (by simp [hbefore.running])]
    exact hk trips hbefore
  · rw [if_pos hoverrun.stopped]
    exact ⟨trips, .inr hoverrun⟩

/-! ### One read -/

section Read

variable {u : Pci} {max : Nat} {c : Scan} {trips : List (Dword × Dword)} {bus : BitVec 8} {dev : BitVec 5}
  {fn : BitVec 3} {off : Byte} (h : c.Before u max (some (addrEnc bus dev fn off)) trips)
include h

/-- A read that finds nothing. -/
theorem Scan.Before.read (hfound : ¬ foundBy (addrEnc bus dev fn off, c.pci.readDword bus dev fn off)) :
    Scan.Before u max (scanNext (addrEnc bus dev fn off) (c.pci.readDword bus dev fn off))
      { c with pci := c.pci.afterConfigRead bus dev fn off }
      (trips ++ [(addrEnc bus dev fn off, c.pci.readDword bus dev fn off)]) where
  lists :=
    { scanned := .read bus dev fn off h.lists.scanned h.next
      found := by rw [presentProbes_concat_of_not_found hfound]; exact h.lists.found
      count := h.lists.count }
  running := h.running
  next := nextWord_concat _ _
  fits := by rw [presentProbes_concat_of_not_found hfound]; exact h.fits

/-- A read that finds a function, which is recorded or stops the scan (R292). -/
theorem Scan.Before.record (hfound : foundBy (addrEnc bus dev fn off, c.pci.readDword bus dev fn off)) :
    (Scan.record { c with pci := c.pci.afterConfigRead bus dev fn off } max (pack bus dev fn)).Reaches u max
      (scanNext (addrEnc bus dev fn off) (c.pci.readDword bus dev fn off)) := by
  have hscanned := Pci.Scanned.read bus dev fn off h.lists.scanned h.next
  have hprobes := presentProbes_concat_of_found (trips := trips) hfound
  have hlength := congrArg List.length hprobes
  rw [List.length_append, List.length_singleton] at hlength
  have hentry : (addrEnc bus dev fn off).extractLsb' 8 16 = pack bus dev fn := addrFunction_addrEnc bus dev fn off
  have hall : c.found.reverse = presentProbes (roundTrips trips) := by
    rw [h.lists.found, List.take_of_length_le h.fits]
  have hcount : c.count = (presentProbes (roundTrips trips)).length := by
    rw [h.lists.count, ← hall, List.length_reverse]
  refine ⟨trips ++ [(addrEnc bus dev fn off, c.pci.readDword bus dev fn off)], ?_⟩
  obtain ⟨hfull, hrecord⟩ | ⟨hroom, hrecord⟩ := Scan.record_cases { c with pci := _ } max (pack bus dev fn) <;>
    rw [hrecord]
  · have hmax : c.count = max := hfull
    refine .inr ⟨⟨hscanned, ?found, h.lists.count⟩, rfl, ⟨_, List.getLast?_concat, hfound⟩, ?onePast⟩
    case found =>
      rw [hprobes, List.take_append_of_le_length (by omega)]
      exact h.lists.found
    case onePast =>
      omega
  · have hlt : (presentProbes (roundTrips trips)).length < max := lt_of_le_of_ne h.fits (hcount ▸ hroom)
    have hfits := hlength.trans_le hlt
    refine .inl ⟨⟨hscanned, ?found, congrArg (· + 1) h.lists.count⟩, h.running, nextWord_concat _ _, hfits⟩
    case found =>
      rw [List.take_of_length_le hfits, hprobes, hentry, List.reverse_cons, hall]

end Read

/-! ### The loops -/

section Loops

variable {u : Pci} {max : Nat} {c : Scan} {trips : List (Dword × Dword)} {bus : BitVec 8} {dev : BitVec 5}

/-- The probe of one function, recorded if it is present. -/
def Scan.probed (max : Nat) (bus : BitVec 8) (dev : BitVec 5) (fn : BitVec 3) (c : Scan) : Scan :=
  if (c.pci.probe bus dev fn).1 then Scan.record { c with pci := (c.pci.probe bus dev fn).2 } max (pack bus dev fn)
  else { c with pci := (c.pci.probe bus dev fn).2 }

theorem scanFunctions_cons (fn : BitVec 3) (fns : List (BitVec 3)) (hrunning : c.stopped = false) :
    scanFunctions max bus dev (fn :: fns) c =
      if (c.probed max bus dev fn).stopped then c.probed max bus dev fn
      else scanFunctions max bus dev fns (c.probed max bus dev fn) := by
  by_cases hprobe : (c.pci.probe bus dev fn).1
  · rw [Scan.probed, if_pos hprobe]
    exact if_pos hprobe
  · rw [Scan.probed, if_neg hprobe, if_neg (by simp [hrunning])]
    exact if_neg hprobe

theorem Scan.Before.probed {fn : BitVec 3} (h : c.Before u max (some (addrEnc bus dev fn 0x00#8)) trips) :
    (c.probed max bus dev fn).Reaches u max
      (scanNext (addrEnc bus dev fn 0x00#8) (c.pci.readDword bus dev fn 0x00#8)) := by
  unfold Scan.probed
  split_ifs with hprobe
  · exact h.record (foundBy_addrEnc_iff.2 ((c.pci.probe_fst_iff bus dev fn).1 hprobe))
  · have hsentinel := mt (c.pci.probe_fst_iff bus dev fn).2 hprobe
    exact ⟨_, .inl (h.read (mt foundBy_addrEnc_iff.1 hsentinel))⟩

/-- Functions `k` to 7 of a device (R290). -/
theorem scanFunctions_reaches {m k : Nat} (hk : 1 ≤ k) (hm : k + m = 8)
    (h : c.Before u max (functionStart bus dev k) trips) :
    (scanFunctions max bus dev ((List.range' k m).map (BitVec.ofNat 3)) c).Reaches u max
      (slotStart (32 * bus.toNat + dev.toNat + 1)) := by
  induction m generalizing k c trips with
  | zero =>
    rw [functionStart, if_neg (by omega)] at h
    exact ⟨trips, .inl h⟩
  | succ m ih =>
    have hfn : (BitVec.ofNat 3 k).toNat = k := Nat.mod_eq_of_lt (by omega)
    rw [functionStart, if_pos (by omega)] at h
    have hprobed := h.probed
    rw [scanNext_upper bus dev _ (by bv_omega), hfn] at hprobed
    rw [List.range'_succ, List.map_cons, scanFunctions_cons _ _ h.running]
    exact hprobed.runOn fun trips hbefore => ih (by omega) (by omega) hbefore

/-- The read of the header type of a device, and of its other functions if bit 7 says so (R294). -/
def Scan.pastHeader (max : Nat) (bus : BitVec 8) (dev : BitVec 5) (c : Scan) : Scan :=
  if (c.pci.configRead bus dev 0#3 0x0E#8 .w8).1.getLsbD 7 then
    scanFunctions max bus dev upperFunctions { c with pci := (c.pci.configRead bus dev 0#3 0x0E#8 .w8).2 }
  else { c with pci := (c.pci.configRead bus dev 0#3 0x0E#8 .w8).2 }

theorem scanDevice_eq (max : Nat) (bus : BitVec 8) (dev : BitVec 5) (c : Scan) :
    scanDevice max bus dev c =
      if (c.pci.probe bus dev 0#3).1 then
        if (c.probed max bus dev 0#3).stopped then c.probed max bus dev 0#3
        else (c.probed max bus dev 0#3).pastHeader max bus dev
      else c.probed max bus dev 0#3 := by
  by_cases hprobe : (c.pci.probe bus dev 0#3).1
  · rw [if_pos hprobe, Scan.probed, if_pos hprobe]
    exact if_pos hprobe
  · rw [if_neg hprobe, Scan.probed, if_neg hprobe]
    exact if_neg hprobe

theorem Scan.Before.pastHeader (h : c.Before u max (some (addrEnc bus dev 0#3 0x0E#8)) trips) :
    (c.pastHeader max bus dev).Reaches u max (slotStart (32 * bus.toNat + dev.toNat + 1)) := by
  have hread := h.read fun hfound => absurd ((addrEnc_dwordNumber bus dev 0#3 0x0E#8).symm.trans hfound.1) (by decide)
  rw [scanNext_header] at hread
  rw [Scan.pastHeader, Pci.configRead_eq, extract_header_bit]
  split_ifs at hread ⊢
  · exact scanFunctions_reaches (m := 7) le_rfl rfl hread
  · exact ⟨_, .inl hread⟩

theorem scanDevice_reaches (h : c.Before u max (slotStart (32 * bus.toNat + dev.toNat)) trips) :
    (scanDevice max bus dev c).Reaches u max (slotStart (32 * bus.toNat + dev.toNat + 1)) := by
  rw [slotStart_eq_addrEnc] at h
  have hprobed := h.probed
  rw [scanNext_first] at hprobed
  rw [scanDevice_eq, if_congr (c.pci.probe_fst_iff bus dev 0#3) rfl rfl]
  by_cases hsentinel : (c.pci.readDword bus dev 0#3 0x00#8).setWidth 16 = 0xFFFF#16
  · rw [if_pos hsentinel] at hprobed
    rwa [if_neg (not_not_intro hsentinel)]
  · rw [if_neg hsentinel] at hprobed
    rw [if_pos hsentinel]
    exact hprobed.runOn fun trips hbefore => hbefore.pastHeader

/-- Devices `j` to 31 of a bus. -/
theorem scanDevices_reaches {m j : Nat} (hm : j + m = 32)
    (h : c.Before u max (slotStart (32 * bus.toNat + j)) trips) :
    (scanDevices max bus ((List.range' j m).map (BitVec.ofNat 5)) c).Reaches u max
      (slotStart (32 * (bus.toNat + 1))) := by
  induction m generalizing j c trips with
  | zero =>
    rw [show 32 * bus.toNat + j = 32 * (bus.toNat + 1) by omega] at h
    exact ⟨trips, .inl h⟩
  | succ m ih =>
    have hdev : (BitVec.ofNat 5 j).toNat = j := Nat.mod_eq_of_lt (by omega)
    have hdevice := scanDevice_reaches (bus := bus) (dev := BitVec.ofNat 5 j) (by rwa [hdev])
    rw [hdev] at hdevice
    exact hdevice.runOn fun trips hbefore => ih (by omega) hbefore

/-- Buses `i` to 255. -/
theorem scanBuses_reaches {m i : Nat} (hm : i + m = 256) (h : c.Before u max (slotStart (32 * i)) trips) :
    (scanBuses max ((List.range' i m).map (BitVec.ofNat 8)) c).Reaches u max none := by
  induction m generalizing i c trips with
  | zero =>
    rw [slotStart, if_neg (by omega)] at h
    exact ⟨trips, .inl h⟩
  | succ m ih =>
    have hbus : (BitVec.ofNat 8 i).toNat = i := Nat.mod_eq_of_lt (by omega)
    have hdevices := scanDevices_reaches (bus := BitVec.ofNat 8 i) (j := 0) (m := 32) rfl (by rwa [hbus])
    rw [hbus] at hdevices
    exact hdevices.runOn fun trips hbefore => ih (by omega) hbefore

end Loops

/-- The whole scan comes to the end of the space or stops at the bound. -/
theorem Pci.enumerate_reaches (u : Pci) (max : Nat) : (u.enumerate max).Reaches u max none := by
  rw [Pci.enumerate, allBuses, List.range_eq_range']
  exact scanBuses_reaches (i := 0) (m := 256) (trips := []) rfl
    { lists := ⟨.nil, List.take_nil.symm, rfl⟩, running := rfl, next := rfl, fits := Nat.zero_le max }

end Sys2Proof.Machine
end

section
/-!
SUPPORT. ENUMERATE, read off the reads its scan makes (spec/44_pci_enumerator.md R290 to R297): its trace, its entries
and their bound and order, and the scan of a platform without functions.
-/

namespace Sys2Proof.Machine

/-! ### The operation -/

/-- What the scan after these trips ended on: the end of the space, or one function more than fit (R292, D23). -/
def ScanEnded (max : Nat) (trips : List (Dword × Dword)) (last : Dword × Dword) : Prop :=
  (scanNext last.1 last.2 = none ∧ (presentProbes (roundTrips trips)).length ≤ max) ∨
    (foundBy last ∧ (presentProbes (roundTrips trips)).length = max + 1)

theorem Scan.Reaches.ended {u : Pci} {max : Nat} {c : Scan} (h : c.Reaches u max none) :
    ∃ trips last, c.Lists u max trips ∧ trips.getLast? = some last ∧ ScanEnded max trips last := by
  obtain ⟨trips, hbefore | hoverrun⟩ := h
  · cases hlast : trips.getLast? with
    | none => simpa [nextWord, hlast] using hbefore.next
    | some last =>
      have hnext := (nextWord_of_getLast? hlast).symm.trans hbefore.next
      exact ⟨trips, last, hbefore.lists, hlast, .inl ⟨hnext, hbefore.fits⟩⟩
  · obtain ⟨last, hlast, hfound⟩ := hoverrun.last
    exact ⟨trips, last, hoverrun.lists, hlast, .inr ⟨hfound, hoverrun.onePast⟩⟩

/-- ENUMERATE makes the reads of a scan that came to its end, and lists what they found, cut off at `max`. -/
theorem exec_enumerate (s : State) (max : Dword) :
    ∃ trips last e, exec (.enumerate max) s =
        .next { s with pci := (s.pci.afterTrips trips).setResult (.entries e.length e) } ∧
      s.pci.Scanned trips (s.pci.afterTrips trips) ∧ e = (presentProbes (roundTrips trips)).take max.toNat ∧
      trips.getLast? = some last ∧ ScanEnded max.toNat trips last := by
  obtain ⟨trips, last, hlists, hlast, hended⟩ := (s.pci.enumerate_reaches max.toNat).ended
  have hpci := hlists.scanned.eq_afterTrips
  refine ⟨trips, last, _, ?_, hpci ▸ hlists.scanned, hlists.found, hlast, hended⟩
  rw [List.length_reverse, ← hlists.count, ← hpci]
  rfl

/-- Settles O45: the trips of the scan, whose facts are those of `Pci.Scanned` and of its end. -/
theorem enumerateTraffic : Obligations.EnumerateTraffic := by
  intro s max
  obtain ⟨trips, last, e, hexec, hscanned, he, hlast, hended⟩ := exec_enumerate s max
  refine ⟨trips, last, e, ?next, he, fun p hp => (hscanned.words p hp).addressWord, hscanned.length_le, ?first, hlast,
    hscanned.chain, ?ended, fun k p hp => hscanned.answers hp⟩
  case next =>
    rw [hexec]
    simp only [Pci.setResult, Pci.afterTrips, hlast, Option.elim_some]
  case first =>
    cases trips with
    | nil => cases hlast
    | cons p trips => exact congrArg some (hscanned.starts p rfl)
  case ended => exact hended.imp_right fun ⟨⟨hzero, hvendor⟩, hlength⟩ => ⟨hzero, hvendor, hlength⟩

/-- The entries that ENUMERATE answers with, and the reads that found them. -/
theorem enumerate_entries {s t : State} {max : Dword} {count : Nat} {e : List (BitVec 16)}
    (hexec : exec (.enumerate max) s = .next t) (hresult : t.pci.result = .entries count e) :
    ∃ trips, s.pci.Scanned trips (s.pci.afterTrips trips) ∧
      t.pci.history = (roundTrips trips).reverse ++ s.pci.history ∧
      e = (presentProbes (roundTrips trips)).take max.toNat := by
  obtain ⟨trips, last, e', hnext, hscanned, he, -, -⟩ := exec_enumerate s max
  cases hnext.symm.trans hexec
  cases hresult
  exact ⟨trips, hscanned, rfl, he⟩

/-! ### The statements on the entries -/

/-- The functions that a scan found rise (R293). -/
theorem Pci.Scanned.found_ascends {u v : Pci} {trips : List (Dword × Dword)} (h : u.Scanned trips v) :
    ((presentProbes (roundTrips trips)).map BitVec.toNat).Pairwise (· < ·) := by
  rw [presentProbes_roundTrips, List.pairwise_map, List.pairwise_map]
  refine (h.ranks.filter _).imp_of_mem fun hp hq hlt => ?_
  obtain ⟨hp, hfoundp⟩ := List.mem_filter.1 hp
  obtain ⟨hq, hfoundq⟩ := List.mem_filter.1 hq
  exact (h.words _ hp).function_lt (h.words _ hq) (of_decide_eq_true hfoundp).1 (of_decide_eq_true hfoundq).1 hlt

/-- Settles O42: the entries are a part of the functions found, which rise. -/
theorem enumerateAscends : Obligations.EnumerateAscends := by
  intro s t max count e hexec hresult
  obtain ⟨trips, hscanned, -, rfl⟩ := enumerate_entries hexec hresult
  exact hscanned.found_ascends.sublist ((List.take_sublist _ _).map _)

/-- Settles O41: the entries are cut off at `max`, and as 16-bit numbers that rise they are at most 65536. -/
theorem enumerateBounded : Obligations.EnumerateBounded := by
  intro s max
  obtain ⟨trips, last, e, hexec, hscanned, rfl, -, -⟩ := exec_enumerate s max
  have hfound : (presentProbes (roundTrips trips)).length ≤ 65536 := by
    have hle := length_le_of_pairwise_lt hscanned.found_ascends (List.forall_mem_map.2 fun x _ => x.isLt)
    rwa [List.length_map] at hle
  exact ⟨_, _, _, _, _, _, hexec, rfl, List.length_take_le _ _, (List.length_take_le' _ _).trans hfound⟩

/-- Settles O43: the added trace is the round trips of the scan. -/
theorem enumerateListsWhatItsReadsFound : Obligations.EnumerateListsWhatItsReadsFound := by
  intro s t max count e hexec hresult
  obtain ⟨trips, -, hhistory, he⟩ := enumerate_entries hexec hresult
  exact ⟨(roundTrips trips).reverse, hhistory, by rwa [List.reverse_reverse]⟩

/-! ### Absent functions -/

/-- Clearing the function bits of a packed function leaves function 0 of its device. -/
theorem function_and_mask (bus : BitVec 8) (dev : BitVec 5) (fn : BitVec 3) :
    (bus ++ dev ++ fn : BitVec 16) &&& 0xFFF8#16 = (bus ++ dev ++ 0#3 : BitVec 16) := by
  apply BitVec.eq_of_getLsbD_eq
  intro i hi
  simp only [BitVec.getLsbD_and, BitVec.getLsbD_append]
  interval_cases i <;> simp

/-- A read that finds a function is of one that the platform has (R271). -/
theorem Pci.Scanned.not_absent_of_found {u v : Pci} {trips : List (Dword × Dword)} (h : u.Scanned trips v)
    {p : Dword × Dword} (hp : p ∈ trips) (hfound : foundBy p) : p.1.extractLsb' 8 16 ∉ u.absent :=
  fun habsent => hfound.2 (h.sentinel_of_absent hp habsent hfound.1)

/-- A read that finds a function is of a device whose function 0 the platform has (R291). -/
theorem Pci.Scanned.device_not_absent_of_found {u v : Pci} {trips : List (Dword × Dword)} (h : u.Scanned trips v)
    {p : Dword × Dword} (hp : p ∈ trips) (hfound : foundBy p) : p.1.extractLsb' 8 16 &&& 0xFFF8#16 ∉ u.absent := by
  have hpresent := h.not_absent_of_found hp hfound
  obtain ⟨bus, dev, fn, hfn, hgate⟩ := (h.words p hp).function_cases
  rw [hfn, function_and_mask]
  exact hgate.elim (fun hzero => by rwa [hfn, hzero] at hpresent) id

/-- Settles O44: each entry was found by a read of the scan. -/
theorem enumerateSkipsAbsentDevices : Obligations.EnumerateSkipsAbsentDevices := by
  intro s t max count e hexec hresult x hx
  obtain ⟨trips, hscanned, -, rfl⟩ := enumerate_entries hexec hresult
  obtain ⟨p, hp, hfound, rfl⟩ := mem_presentProbes_roundTrips.1 (List.mem_of_mem_take hx)
  exact ⟨hscanned.not_absent_of_found hp hfound, hscanned.device_not_absent_of_found hp hfound⟩

/-! ### The empty space -/

/-- A chain of reads that goes from slot to slot, from slot `n` to the end of the space, reads each of them once. -/
theorem words_of_slot_chain {n : Nat} {p : Dword × Dword} {trips : List (Dword × Dword)} (hn : n < 8192)
    (hp : p.1 = slotWord n) (hchain : (p :: trips).IsChain fun p q => scanNext p.1 p.2 = some q.1)
    (hslots : ∀ q ∈ p :: trips, ∀ m < 8192, q.1 = slotWord m → scanNext q.1 q.2 = slotStart (m + 1))
    (hend : ∀ q ∈ (p :: trips).getLast?, scanNext q.1 q.2 = none) :
    (p :: trips).map Prod.fst = (List.range' n (8192 - n)).map slotWord := by
  have hnext : scanNext p.1 p.2 = slotStart (n + 1) := hslots p List.mem_cons_self n hn hp
  induction trips generalizing n p with
  | nil =>
    have hlast : slotStart (n + 1) = none := hnext.symm.trans (hend p rfl)
    obtain rfl : n = 8191 := by
      simp only [slotStart, ite_eq_right_iff, reduceCtorEq, imp_false] at hlast
      omega
    simp [hp]
  | cons q trips ih =>
    rw [List.isChain_cons_cons] at hchain
    obtain ⟨hpq, hchain⟩ := hchain
    obtain ⟨hn', hq⟩ : n + 1 < 8192 ∧ slotWord (n + 1) = q.1 := by
      simpa [slotStart] using hnext.symm.trans hpq
    have hslots' := fun r hr => hslots r (List.mem_cons_of_mem _ hr)
    have htail := ih hn' hq.symm hchain hslots' (by simpa using hend) (hslots' q List.mem_cons_self _ hn' hq.symm)
    rw [List.map_cons, htail, hp, show 8192 - n = 8192 - (n + 1) + 1 by omega, List.range'_succ, List.map_cons]

section EmptySpace

variable {u v : Pci} {trips : List (Dword × Dword)}
  (hempty : ∀ (bus : BitVec 8) (dev : BitVec 5), (bus ++ dev ++ 0#3 : BitVec 16) ∈ u.absent)
include hempty

/-- With every function 0 absent, no read finds a function (R291). -/
theorem Pci.Scanned.not_found_of_empty (h : u.Scanned trips v) {p : Dword × Dword} (hp : p ∈ trips) :
    ¬ foundBy p := by
  intro hfound
  have hgate := h.device_not_absent_of_found hp hfound
  obtain ⟨bus, dev, fn, hfn, -⟩ := (h.words p hp).function_cases
  rw [hfn, function_and_mask] at hgate
  exact hgate (hempty bus dev)

theorem Pci.Scanned.next_of_empty (h : u.Scanned trips v) {p : Dword × Dword} (hp : p ∈ trips) {m : Nat}
    (hm : m < 8192) (hword : p.1 = slotWord m) : scanNext p.1 p.2 = slotStart (m + 1) := by
  obtain ⟨bus, dev, rfl, ha⟩ := exists_of_slotStart (if_pos hm : slotStart m = some (slotWord m))
  have hsentinel : p.2.setWidth 16 = 0xFFFF#16 := by
    refine h.sentinel_of_absent hp ?_ ?_
    · rw [hword, ha, addrEnc_function]
      exact hempty bus dev
    · rw [hword, ha]
      exact addrEnc_dwordNumber bus dev _ _
  rw [hword, ha, scanNext_first, if_pos hsentinel]

end EmptySpace

/-- Settles O46: no read finds a function, so the scan goes from slot to slot up to the end of the space. -/
theorem enumerateEmptySpace : Obligations.EnumerateEmptySpace := by
  intro s max hempty
  obtain ⟨trips, last, e, hexec, hscanned, rfl, hlast, hended⟩ := exec_enumerate s max
  have hnone : presentProbes (roundTrips trips) = [] := List.eq_nil_iff_forall_not_mem.2 fun x hx => by
    obtain ⟨p, hp, hfound, -⟩ := mem_presentProbes_roundTrips.1 hx
    exact hscanned.not_found_of_empty hempty hp hfound
  have hend : scanNext last.1 last.2 = none := hended.elim And.left fun hoverrun =>
    absurd hoverrun.1 (hscanned.not_found_of_empty hempty (List.mem_of_getLast? hlast))
  have hwords : trips.map Prod.fst = (List.range 8192).map slotWord := by
    cases trips with
    | nil => cases hlast
    | cons p trips =>
      rw [List.range_eq_range']
      refine words_of_slot_chain (by decide) (hscanned.starts p rfl) hscanned.chain
        (fun q hq m hm => hscanned.next_of_empty hempty hq hm) fun q hq => ?_
      cases hlast.symm.trans hq
      exact hend
  have hlength : trips.length = 8192 := by simpa using congrArg List.length hwords
  refine ⟨_, trips, hexec, ?result, ?drawCount, rfl, hwords⟩
  case result => simp [hnone]
  case drawCount => exact congrArg (s.pci.drawCount + ·) hlength

end Sys2Proof.Machine
end

section
/-!
SUPPORT. POLL, branch by branch (spec/45_keyboard_poll.md R310 to R316): refused, with no byte waiting, and with one,
which FEED takes and the delivery passes on.
-/

namespace Sys2Proof.Machine

/-! ### The branches of POLL -/

/-- Settles O31: the test of the callback is the first that POLL makes. -/
theorem pollBeforeRegistrationIsRefused : Obligations.PollBeforeRegistrationIsRefused :=
  fun _ hcallback => if_pos hcallback

theorem Kbd.portRead_eq_afterRead (k : Kbd) (port : Port) : k.portRead port = (k.nextDraw, k.afterRead port) := rfl

/-- POLL that is not refused reads the status port, and goes on as bit 0 of the answer says (R310, R311). -/
theorem execPoll_eq_of_legal {s : State} (hcallback : s.kbd.callbackRegistered = true)
    (hlegal : s.kbd.st.toNat ≤ 0xA) :
    execPoll s =
      if s.kbd.nextDraw.getLsbD 0 then pollByte { s with kbd := s.kbd.afterRead Config.kbdStatusPort }
      else .next { s with kbd := (s.kbd.afterRead Config.kbdStatusPort).setResult .nothing } := by
  have hcode : DecoderState.ofCode s.kbd.st ≠ none := fun hnone =>
    absurd ((DecoderState.ofCode_eq_none_iff _).1 hnone) (by omega)
  rw [execPoll, if_neg (by simp [hcallback]), if_neg hcode, Kbd.portRead_eq_afterRead]

/-- Settles O30: bit 0 of the status is clear, so POLL ends with its status read. -/
theorem pollWithoutByteReadsStatusOnly : Obligations.PollWithoutByteReadsStatusOnly := by
  intro s hcallback hlegal hclear
  exact (execPoll_eq_of_legal hcallback hlegal).trans (if_neg (Bool.eq_false_iff.1 hclear))

/-! ### The byte and its delivery -/

/-- A POLL that reads a byte is FEED of it after the two reads, and the delivery of what FEED left (R310, R312). -/
theorem exec_poll_eq_deliver {s u : State} {b : Byte} (hcallback : s.kbd.callbackRegistered = true)
    (hlegal : s.kbd.st.toNat ≤ 0xA) (hwaiting : s.kbd.nextDraw.getLsbD 0 = true)
    (hbyte : (s.kbd.afterRead 0x0064#16).nextDraw = b)
    (hfeed : exec (.feed b) { s with kbd := (s.kbd.afterRead 0x0064#16).afterRead 0x0060#16 } = .next u) :
    exec .poll s = .next { u with kbd := u.kbd.deliver b } := by
  have hpoll : exec .poll s = pollByte { s with kbd := s.kbd.afterRead 0x0064#16 } :=
    (execPoll_eq_of_legal hcallback hlegal).trans (if_pos hwaiting)
  have hfed : feedByte b { s with kbd := (s.kbd.afterRead 0x0064#16).afterRead Config.kbdDataPort } = .next u := hfeed
  simp only [hpoll, pollByte, Kbd.portRead_eq_afterRead, hbyte, hfed]

/-- The delivery of an emitted character: KeyFlags as MOD_APPLY leaves them, and the callback on a press, which is when
the updated PRESSED is set (R201, R207, R313). -/
theorem Kbd.deliver_of_emitted_some {k : Kbd} {c : Byte} (h : k.result = .emitted (some c)) (b : Byte) :
    k.deliver b =
      { k with
        flags := updateFlags k.params c b k.flags, result := .nothing,
        history :=
          if b.getLsbD 7 = false then
            .callback (adjustChar k.params c b (updateFlags k.params c b k.flags)) b
              (updateFlags k.params c b k.flags) :: k.history
          else k.history } := by
  have hpressed : (k.modApply c b).2.flags.getLsbD flagPressed = !b.getLsbD 7 :=
    updateFlags_pressed k.params c b k.flags
  simp only [Kbd.deliver, h, hpressed, Bool.not_eq_true']
  split_ifs <;> rfl

/-- Settles O32: POLL delivers FEED's output, and a delivery's character and flags are those of MOD_APPLY. -/
theorem pollRoutesByte : Obligations.PollRoutesByte := by
  intro s u b hcallback hlegal hwaiting hbyte hfeed
  have hpoll := exec_poll_eq_deliver hcallback hlegal hwaiting hbyte hfeed
  refine ⟨fun hnone => ?silent, fun c hsome => ⟨_, _, exec_modApply c b u, ?value⟩⟩
  case silent =>
    rw [hpoll, Kbd.deliver_of_emitted_none hnone]
    rfl
  case value => rw [hpoll, Kbd.deliver_of_emitted_some hsome]

/-! ### A single-byte key -/

/-- In Start every byte but the two prefixes is a key, whose table entry FEED emits (R144). -/
theorem exec_feed_key_eq_after {s : State} {b : Byte} (hst : s.kbd.st = DecoderState.code .start) (hE0 : b ≠ 0xE0#8)
    (hE1 : b ≠ 0xE1#8) :
    exec (.feed b) s = .next { s with kbd := s.kbd.after .start (some (plainChar s.kbd.params b)) } := by
  have hrow : fsmRow s.kbd.params b .start = .feedStartKey b := (if_neg hE0).trans (if_neg hE1)
  rw [exec_feed_eq_fsmRow hst, hrow]
  exact State.onKbd_move_eq_after hst

/-- Settles O33: the key is fed after the two reads, and its table entry delivered. -/
theorem pollDeliversKey : Obligations.PollDeliversKey := by
  intro s b hcallback hst hwaiting hbyte hE0 hE1
  have hstart : s.kbd.st = DecoderState.code .start := hst
  have hfeed := exec_feed_key_eq_after
    (s := { s with kbd := (s.kbd.afterRead 0x0064#16).afterRead 0x0060#16 }) hstart hE0 hE1
  refine ⟨plainChar s.kbd.params b, _, (plainChar_eq _ b).symm, rfl, ?_⟩
  rw [exec_poll_eq_deliver hcallback (by simp [hst]) hwaiting hbyte hfeed, Kbd.deliver_of_emitted_some rfl]
  subst hbyte
  simp only [Kbd.after, ← hstart]
  split_ifs <;> rfl

end Sys2Proof.Machine
end

section
/-!
SUPPORT. No step stops (spec/60_exceptions.md R330): a call runs an operation, never a bare FSM row, and in a state that
keeps the invariant every operation answers a next state, because a command in flight has a written head slot (R43, R44).
-/

namespace Sys2Proof.Machine

/-! ### The instruction of a call -/

theorem exists_encode_decodePciRead_eq_request (p : KbdParams) (wcode : BitVec 2) (bus : BitVec 8) (dev : BitVec 5)
    (fn : BitVec 3) (off : Byte) : ∃ w, encode p (decodePciRead wcode bus dev fn off) = .request w := by
  unfold decodePciRead
  split <;> exact ⟨_, rfl⟩

/-- No request word decodes to an FSM row, whose code is a key (R100). -/
theorem exists_encode_decodeRequest_eq_request (p : KbdParams) (w : RequestWord) :
    ∃ w', encode p (decodeRequest w) = .request w' := by
  unfold decodeRequest
  dsimp only
  split
  case h_5 => exact exists_encode_decodePciRead_eq_request p _ _ _ _ _
  all_goals exact ⟨_, rfl⟩

/-- An operation by numbers is a PCI_READ, so it too has a request word (R260). -/
theorem exists_encode_eq_request_of_call {c : Call} {i : Instr} (h : c.instr = .ok i) (p : KbdParams) :
    ∃ w, encode p i = .request w := by
  cases c with
  | word w =>
    cases h
    exact exists_encode_decodeRequest_eq_request p w
  | subwordWrite => cases h
  | numericRead =>
    unfold Call.instr at h
    dsimp only at h
    split_ifs at h
    cases h
    exact ⟨_, rfl⟩

/-! ### The operations that look at `st` -/

theorem Kbd.Inv.exists_st_eq_code {k : Kbd} (h : k.Inv) : ∃ d : DecoderState, k.st = d.code := by
  obtain ⟨d, hd⟩ := Option.isSome_iff_exists.1 h.legal
  exact ⟨d, DecoderState.code_of_ofCode hd⟩

theorem Kbd.Inv.st_le {k : Kbd} (h : k.Inv) : k.st.toNat ≤ 0xA := by
  obtain ⟨d, hd⟩ := h.exists_st_eq_code
  rw [hd]
  cases d <;> decide

/-- A response finds the head command it is about (R43, R44). -/
theorem exists_exec_feed_awaiting_eq_next {s : State} (h : s.kbd.Inv)
    (hst : s.kbd.st = DecoderState.code .awaitingControllerResponse) (b : Byte) :
    ∃ t, exec (.feed b) s = .next t := by
  have hlen : s.kbd.q.len ≠ 0#5 := h.inFlight hst
  obtain ⟨cmd, hhead⟩ := h.exists_head hlen
  rw [Fifo.buf_slot_zero] at hhead
  obtain ⟨hackRow, hresendRow, hotherRow⟩ := feedWhileAwaitingIsResponse s b cmd hst hlen hhead
  by_cases hack : b = s.kbd.params.ackByte
  · exact ⟨_, hackRow hack⟩
  · by_cases hresend : b = s.kbd.params.resendByte
    · exact ⟨_, hresendRow hack hresend⟩
    · exact ⟨_, hotherRow hack hresend⟩

theorem exists_exec_feed_eq_next {s : State} (h : s.kbd.Inv) (b : Byte) : ∃ t, exec (.feed b) s = .next t := by
  obtain ⟨d, hst⟩ := h.exists_st_eq_code
  by_cases hawait : d = .awaitingControllerResponse
  · exact exists_exec_feed_awaiting_eq_next h (hawait ▸ hst) b
  · obtain ⟨d', e, hfeed, -⟩ := exec_feed_eq_after hst hawait b
    exact ⟨_, hfeed⟩

/-- The dispatch gate opens only on a command whose slot is written (R232, R44). -/
theorem Kbd.Inv.exists_tryDispatch_eq_next {k : Kbd} (h : k.Inv) : ∃ k', k.tryDispatch = .next k' := by
  by_cases hopen : k.st = DecoderState.code .start ∧ k.q.len ≠ 0#5
  · obtain ⟨hst, hlen⟩ := hopen
    obtain ⟨cmd, hhead⟩ := h.exists_head hlen
    exact ⟨_, Kbd.tryDispatch_eq_transmit hst hlen hhead⟩
  · rw [not_and_or, not_not] at hopen
    exact ⟨_, Kbd.tryDispatch_eq_setResult h.st_le hopen⟩

/-- POLL feeds its byte after two reads, which keep the invariant (R310). -/
theorem exists_exec_poll_eq_next {s : State} (h : s.kbd.Inv) : ∃ t, exec .poll s = .next t := by
  cases hcallback : s.kbd.callbackRegistered with
  | false => exact ⟨_, pollBeforeRegistrationIsRefused s hcallback⟩
  | true =>
    cases hwaiting : s.kbd.nextDraw.getLsbD 0 with
    | false => exact ⟨_, pollWithoutByteReadsStatusOnly s hcallback h.st_le hwaiting⟩
    | true =>
      have hread : ((s.kbd.afterRead Config.kbdStatusPort).afterRead Config.kbdDataPort).Inv :=
        (h.portRead (.inr rfl)).portRead (.inl rfl)
      obtain ⟨u, hfeed⟩ := exists_exec_feed_eq_next
        (s := { s with kbd := (s.kbd.afterRead Config.kbdStatusPort).afterRead Config.kbdDataPort }) hread
        (s.kbd.afterRead Config.kbdStatusPort).nextDraw
      exact ⟨_, exec_poll_eq_deliver hcallback h.st_le hwaiting rfl hfeed⟩

/-! ### Every operation, and every step -/

theorem exists_execEnqueue_eq_next (id data : Byte) (s : State) : ∃ t, execEnqueue id data s = .next t := by
  by_cases hfull : s.kbd.q.len = 16#5
  · exact ⟨_, execEnqueue_of_full id data hfull⟩
  · exact ⟨_, execEnqueue_of_not_full id data hfull⟩

/-- An operation answers a next state; an FSM row need not, where `st` does not select it. -/
theorem exists_exec_eq_next_of_request {i : Instr} {p : KbdParams} {w : RequestWord} (hcode : encode p i = .request w)
    {s : State} (h : s.kbd.Inv) : ∃ t, exec i s = .next t := by
  cases i with
  | feed b => exact exists_exec_feed_eq_next h b
  | tryDispatch =>
    obtain ⟨k, hk⟩ := h.exists_tryDispatch_eq_next
    exact ⟨_, congrArg s.onKbd hk⟩
  | poll => exact exists_exec_poll_eq_next h
  | enqueue id data => exact exists_execEnqueue_eq_next id data s
  | reset | modApply | pciRead | pciReadReservedWidth | pciWrite32 | deviceExists | enumerate
  | reservedA | reservedB | reservedC | reservedD | reservedE | reservedF => exact ⟨_, rfl⟩
  | _ => cases hcode

/-- Settles O51: the step waits, refuses its call, or runs the operation of its call, which answers a next state. -/
theorem stepNeverStops : Obligations.StepNeverStops := by
  intro s hinv
  unfold step
  obtain ⟨-, hf⟩ | ⟨r, rest, u, e, -, hf⟩ | ⟨r, rest, i, -, -, hcall, hf⟩ := s.fetch_cases <;> rw [hf]
  · exact ⟨_, rfl⟩
  · exact ⟨_, rfl⟩
  · obtain ⟨w, hcode⟩ := exists_encode_eq_request_of_call hcall s.kbd.params
    exact exists_exec_eq_next_of_request hcode (s := { s with requests := rest }) hinv.kbd

end Sys2Proof.Machine
end

section
/-!
SUPPORT. RESET and the wait after it (spec/70_reset_and_hazards.md R360, R361): with no call on the caller's list nothing
is fetched, and RESET puts the empty FIFO in place.
-/

namespace Sys2Proof.Machine

/-! ### Waiting for the next operation -/

theorem State.fetch_of_requests_nil {s : State} (h : s.requests = []) : s.fetch = .idle := by
  simp [State.fetch, h]

theorem step_of_fetch_idle {s : State} (h : s.fetch = .idle) : step s = .next s := by
  simp [step, h]

/-- Settles O7: an empty list gives the step nothing to fetch, and an idle step keeps its state. -/
theorem stepWithoutRequestWaits : Obligations.StepWithoutRequestWaits :=
  fun _ h => step_of_fetch_idle (State.fetch_of_requests_nil h)

/-! ### RESET -/

/-- No slot of the FIFO after reset is written (R51). -/
theorem Fifo.empty_buf_getElem (j : Fin 16) : Fifo.empty.buf[j] = none :=
  Vector.getElem_replicate j.isLt

/-- RESET writes the Keyboard Unit through `restart` and nothing else of the machine (R360). -/
theorem exec_reset_eq_restart (s : State) : exec .reset s = .next { s with kbd := s.kbd.restart } := rfl

/-- The code of Start is 0 (R105), so `restart` writes the literals of R360. -/
theorem Kbd.restart_eq (k : Kbd) :
    k.restart = { k with st := 0x0#4, flags := 0x0000#16, q := Fifo.empty, result := .nothing } := rfl

/-- Settles O47: RESET is `restart` of the Keyboard Unit, and the FIFO it leaves is the empty one. -/
theorem resetRestartsKeyboardUnit : Obligations.ResetRestartsKeyboardUnit := by
  intro s
  refine ⟨Fifo.empty, ?_, rfl, rfl, Fifo.empty_buf_getElem⟩
  rw [exec_reset_eq_restart, Kbd.restart_eq]

end Sys2Proof.Machine
end
